-- ==== Sys2Proof/Word.lean ====
section
/-!
DEFINITION. The two plain types the model is written over: octets of wayside frames and characters of control-link lines.
-/

namespace Sys2Proof

/-- One octet of a wayside payload (R184). -/
abbrev Octet := BitVec 8

/-- The characters of a control-link line, its ending left out (R179). -/
abbrev Text := List Char

/-- Seconds in a day: line time runs from 0 to one less (R17). -/
abbrev daySeconds : Nat := 86400

end Sys2Proof
end

