-- ==== Sys2Proof/Syntax.lean ====
section
/-!
DEFINITION. The words of the manual as types, and the one inductive of the part's commands: a constructor for each row of
spec/opcode_table.json. A request's fields are optional: a missing field is refused by the owning rule (R181).
-/

namespace Sys2Proof

/-! ### Vocabulary -/

/-- Track of a segment (R4). -/
inductive Track where
  | up | down | turnback | depot
deriving DecidableEq, Repr

/-- Running direction (R65). -/
inductive Dir where
  | up | down
deriving DecidableEq, Repr

/-- Kinds of wayside unit (R9). -/
inductive UnitKind where
  | track | power | station
deriving DecidableEq, Repr

/-- Kinds of line description record (R12). -/
inductive RecKind where
  | station | segment | powerSection | substation | breaker | unit | params
deriving DecidableEq, Repr

/-- Kinds of breaker (R8). -/
inductive BreakerKind where
  | feeder | tie
deriving DecidableEq, Repr

/-- The learning filter of a segment (R4). -/
inductive Filter where
  | k8 | k16 | k32 | adapt
deriving DecidableEq, Repr

/-- The five line modes (R166). -/
inductive Mode where
  | survey | traffic | reduced | nightLive | nightHeld
deriving DecidableEq, Repr

/-- Regulation method (R87). -/
inductive Method where
  | schedule | headway
deriving DecidableEq, Repr

/-- The two regulation parameter sets (R87). -/
inductive ParamSet where
  | peak | offPeak
deriving DecidableEq, Repr

/-- Breaker actions (R103). -/
inductive Action where
  | opening | closing
deriving DecidableEq, Repr

/-- The nine incident classes, in the order of R134. -/
inductive IncClass where
  | trainStopped | powerTrip | powerDiscrepancy | passengerAlarm | platformFault | obstruction
  | fieldSilence | trackDiscrepancy | operator
deriving DecidableEq, Repr

/-- Announcement priorities, highest first (R153). -/
inductive Priority where
  | emergency | safety | service | information
deriving DecidableEq, Repr

/-- Scope rule of a response entry (R139). -/
inductive ScopeRule where
  | location | line
deriving DecidableEq, Repr

/-- Locations of incidents (00_scope.md, R133). -/
inductive Location where
  | segment (i : Nat)
  | station (i : Nat)
  | powerSection (i : Nat)
  | unit (address : Nat)
  | line
deriving DecidableEq, Repr

/-- The kinds of frame a unit may send (R26). -/
inductive InKind where
  | trackEvent | trackStatus | powerStatus | selectEcho | revokeEcho | stationStatus | playEnd | alarm
deriving DecidableEq, Repr

/-- Slots of a template (R151). -/
inductive SlotKind where
  | station | minutes | platform | train
deriving DecidableEq, Repr

/-- Elements of a template (R151). -/
inductive Element where
  | phrase (id : Nat)
  | slot (kind : SlotKind)
deriving DecidableEq, Repr

/-- The action a host may lift from an incident (R148). -/
inductive ReleaseKind where
  | holdPlatform | holdTrain | deenergise | announce
deriving DecidableEq, Repr

/-- An index, or ALL (R96, R119). -/
inductive OneOrAll where
  | one (i : Nat)
  | all
deriving DecidableEq, Repr

/-- A number, or NONE (R71, R72, R140). -/
inductive OneOrNone where
  | one (i : Nat)
  | none
deriving DecidableEq, Repr

/-- The filter field of a segment: a number, or ADAPT (R4, R96). -/
inductive OneOrAdapt where
  | one (n : Nat)
  | adapt
deriving DecidableEq, Repr

/-- A number, or ANY (R34). -/
inductive OneOrAny where
  | one (i : Nat)
  | any
deriving DecidableEq, Repr

/-- The kind field of a trigger pattern (R34). -/
inductive KindOrAny where
  | kind (k : InKind)
  | any
deriving DecidableEq, Repr

/-- The location rule of a trigger pattern (R34). -/
inductive LocationRule where
  | unitLocation
  | fixed (l : Location)
deriving DecidableEq, Repr

/-- Repeat of an announcement entry, and plays left of a delivery (R153). -/
inductive Repeat where
  | times (n : Nat)
  | continuous
deriving DecidableEq, Repr

/-- The scope field of ANNOUNCE: ALL or a list of stations (R155). -/
inductive ScopeArg where
  | all
  | stations (l : List Nat)
deriving DecidableEq, Repr

/-- Values of the field `what` of the queries (R58, R82, R120, R150, R165). -/
inductive What where
  | segments | platforms | breakers | grants | opened | responses | templates
deriving DecidableEq, Repr

/-- The two outcomes of a store operation (R62). -/
inductive StoreOutcome where
  | done | failed
deriving DecidableEq, Repr

/-! ### Timetable records -/

/-- A timing point of a trip (R65). -/
structure TimingPoint where
  station : Nat
  arrival : Option Nat
  departure : Option Nat
  dwell : Nat
deriving DecidableEq, Repr

/-- A trip of a timetable slot (R65). -/
structure TripRecord where
  number : Nat
  run : Nat
  direction : Dir
  start : Nat
  points : List TimingPoint
deriving DecidableEq, Repr

/-! ### Fields of the requests that carry a record -/

/-- The fields a LINE_LOAD_RECORD may carry, all kinds together (R2, R4, R6 to R10, R12). -/
structure RecordFields where
  kind : Option RecKind := none
  index : Option Nat := none
  name : Option Nat := none
  terminal : Option Bool := none
  unit : Option Nat := none
  arrival : Option Bool := none
  track : Option Track := none
  successor : Option Nat := none
  alternate : Option Nat := none
  platform : Option Nat := none
  section_ : Option Nat := none
  nominal : Option Nat := none
  filter : Option OneOrAdapt := none
  lower : Option Nat := none
  upper : Option Nat := none
  feeders : Option (List Nat) := none
  keepLive : Option Bool := none
  autoReclose : Option Bool := none
  contributions : Option (List (Nat × Nat)) := none
  breakerKind : Option BreakerKind := none
  number : Option Nat := none
  sections : Option (List Nat) := none
  address : Option Nat := none
  unitKind : Option UnitKind := none
  silence : Option Nat := none
  silenceIncident : Option Bool := none
  boundary : Option Nat := none
  numberBase : Option Nat := none
  delayTemplate : Option Nat := none
  arrivalTemplate : Option Nat := none
  allClearTemplate : Option Nat := none
deriving DecidableEq, Repr

/-- The fields of PATTERN_SET (R34, R35). -/
structure PatternFields where
  index : Option Nat := none
  enabled : Option Bool := none
  addressValue : Option Nat := none
  addressMask : Option Nat := none
  kind : Option KindOrAny := none
  length : Option OneOrAny := none
  offset : Option Nat := none
  compare : Option (List Octet) := none
  mask : Option (List Octet) := none
  cls : Option IncClass := none
  severity : Option Nat := none
  location : Option LocationRule := none
  oneShot : Option Bool := none
deriving DecidableEq, Repr

/-- The fields of TT_ADD_TRIP (R67). -/
structure TripFields where
  slot : Option Nat := none
  trip : Option Nat := none
  run : Option Nat := none
  direction : Option Dir := none
  start : Option Nat := none
  points : Option (List TimingPoint) := none
deriving DecidableEq, Repr

/-- The fields of REGULATION_SET (R87). -/
structure RegulationFields where
  set : Option ParamSet := none
  method : Option Method := none
  headway : Option Nat := none
  tolerance : Option Nat := none
  window : Option Nat := none
deriving DecidableEq, Repr

/-- The fields of RESPONSE_SET (R139, R140). -/
structure ResponseFields where
  cls : Option IncClass := none
  severity : Option Nat := none
  upstream : Option Nat := none
  inPlace : Option Bool := none
  deenergise : Option Bool := none
  template : Option OneOrNone := none
  priority : Option Priority := none
  scope : Option ScopeRule := none
  escalate : Option Bool := none
  allClear : Option Bool := none
deriving DecidableEq, Repr

/-- The fields of ANNOUNCE (R155). -/
structure PostFields where
  template : Option Nat := none
  station : Option Nat := none
  minutes : Option Nat := none
  platform : Option Nat := none
  train : Option Nat := none
  priority : Option Priority := none
  scope : Option ScopeArg := none
  rep : Option Repeat := none
  interval : Option Nat := none
  expiry : Option Nat := none
  display : Option Bool := none
deriving DecidableEq, Repr

/-! ### Wayside frames as they appear on the line -/

/-- A wayside frame between its start mark and its error-mark slot (R184). The payload holds the octets received, which a
damaged frame's length field need not count (R24). -/
structure WireFrame where
  urgency : BitVec 3
  originator : BitVec 10
  kind : BitVec 5
  sequence : BitVec 4
  length : BitVec 6
  payload : List Octet
  check : BitVec 16
deriving DecidableEq, Repr

/-- A unit that starts a frame at the same moment as the part: its frame's urgency and its address (R21). -/
structure Rival where
  urgency : BitVec 3
  address : BitVec 10
deriving DecidableEq, Repr

/-! ### The commands -/

/-- One constructor for each row of spec/opcode_table.json. The operand `tag` of a request is the tag of its line. -/
inductive Instr where
  -- starts and time
  | powerOn (stored : Bool)
  | restartStart (stored : Bool)
  | secondTick
  | trafficDayBoundary
  | tripLapse (trip : Nat)
  -- the control link
  | lineArrival (chars : Text)
  | unknownRequest
  -- line model
  | lineLoadBegin (tag : Nat)
  | lineLoadRecord (tag : Nat) (record : RecordFields)
  | lineLoadCommit (tag : Nat)
  | timeSet (tag : Nat) (time : Option Nat)
  -- wayside link requests
  | unitQuery (tag : Nat) (address : Option Nat)
  | patternSet (tag : Nat) (fields : PatternFields)
  | patternArm (tag : Nat)
  | patternQuery (tag : Nat) (index : Option Nat)
  -- train requests
  | stallLimitSet (tag : Nat) (limit : Option Nat)
  | trainSetNumber (tag : Nat) (segment number tail : Option Nat)
  | trainSetDraw (tag : Nat) (number draw : Option Nat)
  | trainWithdraw (tag : Nat) (number : Option Nat)
  | trainQuery (tag : Nat) (number : Option Nat) (what : Option What)
  -- store and timetables
  | storeQuery (tag : Nat)
  | ttOpen (tag : Nat) (slot name : Option Nat)
  | ttAbandon (tag : Nat) (slot : Option Nat)
  | ttAddTrip (tag : Nat) (fields : TripFields)
  | ttClose (tag : Nat) (slot : Option Nat)
  | ttActivate (tag : Nat) (slot : Option OneOrNone)
  | ttSchedule (tag : Nat) (slot : Option OneOrNone)
  | ttQuery (tag : Nat) (slot trip : Option Nat)
  -- service regulation
  | tripAssign (tag : Nat) (train trip : Option Nat)
  | tripCancel (tag : Nat) (trip : Option Nat)
  | tripQuery (tag : Nat) (trip : Option Nat) (what : Option What)
  | holdTrain (tag : Nat) (train : Option Nat)
  | releaseTrain (tag : Nat) (train : Option Nat)
  | holdPlatform (tag : Nat) (platform : Option Nat)
  | releasePlatform (tag : Nat) (platform : Option Nat)
  | regulationSet (tag : Nat) (fields : RegulationFields)
  | delaySet (tag : Nat) (on off : Option Nat)
  | authorityClear (tag : Nat) (train : Option Nat)
  | learnSet (tag : Nat) (segment : Option Nat) (filter : Option OneOrAdapt) (lower upper : Option Nat)
  | learnReset (tag : Nat) (segment : Option OneOrAll)
  | learnQuery (tag : Nat) (segment : Option Nat)
  -- traction power
  | energise (tag : Nat) (sec : Option Nat)
  | energiseAll (tag : Nat)
  | deenergise (tag : Nat) (sec : Option Nat)
  | breakerCommand (tag : Nat) (breaker : Option Nat) (action : Option Action)
  | holdRelease (tag : Nat) (sec : Option OneOrAll)
  | sectionQuery (tag : Nat) (sec : Option Nat) (what : Option What)
  -- permits
  | permitRequest (tag : Nat) (sec holder : Option Nat)
  | permitCancel (tag : Nat) (id : Option Nat)
  | permitSurrender (tag : Nat) (id holder : Option Nat)
  | permitQuery (tag : Nat) (id sec : Option Nat)
  -- incidents
  | escalationSet (tag : Nat) (cls : Option IncClass) (period : Option Nat)
  | responseSet (tag : Nat) (fields : ResponseFields)
  | incidentRaise (tag : Nat) (cls : Option IncClass) (severity : Option Nat) (location : Option Location)
      (note : Option Nat)
  | incidentAck (tag : Nat) (id note : Option Nat)
  | incidentContain (tag : Nat) (id note : Option Nat)
  | incidentClose (tag : Nat) (id note : Option Nat)
  | incidentRelease (tag : Nat) (id : Option Nat) (action : Option ReleaseKind) (index : Option Nat)
  | incidentRetire (tag : Nat) (id : Option Nat)
  | incidentQuery (tag : Nat) (id : Option Nat) (what : Option What)
  -- announcements
  | templateLoad (tag : Nat) (index : Option Nat) (elements : Option (List Element))
  | announce (tag : Nat) (fields : PostFields)
  | withdraw (tag : Nat) (id : Option Nat)
  | announceQuery (tag : Nat) (id : Option Nat) (what : Option What)
  | zoneQuery (tag : Nat) (station : Option Nat)
  -- line modes
  | modeRequest (tag : Nat) (target : Option Mode) (escalate : Option Bool)
  | restart (tag : Nat)
  | surveyEnd (tag : Nat) (target : Option Mode)
  | statusQuery (tag : Nat)
  -- the wayside link
  | tryStart (rivals : List Rival)
  | tryEnd (mark : Bool)
  | frameReceive (frame : WireFrame) (otherMark : Bool)
  | trackEvent
  | trackStatus
  | revokeEcho
  | powerStatus
  | selectEcho
  | stationStatus
  | playEnd
  | alarm
  -- expiries
  | pollPoint (address : Nat)
  | silenceExpiry (address : Nat)
  | stallExpiry (train : Nat)
  | escalationExpiry (incident : Nat)
  | targetExpiry (train : Nat)
  | retryExpiry (train : Nat)
  | authorityLapse (train : Nat)
  | revokeEchoLimit (train : Nat)
  | departureWaitExpiry (train : Nat)
  | startWindowExpiry (train : Nat)
  | regenerationWindowExpiry (sec : Nat)
  | selectWindowExpiry (breaker : Nat)
  | operateLimitExpiry (breaker : Nat)
  | recloseDelayExpiry (sec : Nat)
  | lockoutSpanExpiry (sec : Nat)
  | voltageConfirmExpiry (sec : Nat)
  | isolationConfirmExpiry (sec : Nat)
  -- completions of the line store
  | permitWriteCompletion (outcome : StoreOutcome)
  | permitEraseCompletion (outcome : StoreOutcome)
  | templateWriteCompletion (outcome : StoreOutcome)
  | responseWriteCompletion (outcome : StoreOutcome)
  | indexWriteCompletion (outcome : StoreOutcome)
  | commitPageCompletion (outcome : StoreOutcome)
  | lineDescriptionCompletion (outcome : StoreOutcome)
  -- expiries of the announcement scheduler
  | entryExpiry (entry : Nat)
  | deliveryEligible (entry station : Nat)
  | playLimitExpiry (station : Nat)
  | displayRefreshExpiry (platform : Nat)
  -- a frame that is not dispatched
  | inboundFrameDiscarded
deriving DecidableEq, Repr

end Sys2Proof
end

