-- ==== Sys2Proof/Decode.lean ====
section
/-!
DEFINITION. Reading a control-link line as a request (R179, R181), and the decoder of table words (no row of the table gives bits).
Where the manual names a field only in running text, the name follows R179: lower case, spaces as underscores (log 4).
-/

namespace Sys2Proof

/-- No row of spec/opcode_table.json gives bits, so no word spells a command. -/
def decodeTableWord (_nbits _w : Nat) : Option Instr := none

/-! ### Pieces of text -/

/-- The parts of a text between the occurrences of one character. -/
def splitChar (c : Char) : Text → List Text
  | [] => [[]]
  | x :: xs =>
    if x = c then [] :: splitChar c xs
    else
      match splitChar c xs with
      | [] => [[x]]
      | h :: t => (x :: h) :: t

/-- A decimal digit. -/
def digit? (c : Char) : Option Nat :=
  if 48 ≤ c.toNat ∧ c.toNat ≤ 57 then some (c.toNat - 48) else none

/-- A hexadecimal digit in either case (R179). -/
def hexDigit? (c : Char) : Option Nat :=
  if 48 ≤ c.toNat ∧ c.toNat ≤ 57 then some (c.toNat - 48)
  else if 65 ≤ c.toNat ∧ c.toNat ≤ 70 then some (c.toNat - 55)
  else if 97 ≤ c.toNat ∧ c.toNat ≤ 102 then some (c.toNat - 87)
  else none

/-- Digits read on from a value. -/
def digitsFrom (n : Nat) : Text → Option Nat
  | [] => some n
  | c :: cs =>
    match digit? c with
    | some d => digitsFrom (10 * n + d) cs
    | none => none

/-- A decimal number: one digit or more. -/
def parseNum : Text → Option Nat
  | [] => none
  | c :: cs => digitsFrom 0 (c :: cs)

/-- A tag: a decimal number from 1 to 9,999 with no leading zero (R181). -/
def parseTag (t : Text) : Option Nat :=
  match t with
  | [] => none
  | c :: _ =>
    if c = '0' then none
    else
      match parseNum t with
      | some n => if n ≤ 9999 then some n else none
      | none => none

/-- Two hexadecimal digits. -/
def parseOctet : Text → Option Octet
  | [a, b] =>
    match hexDigit? a, hexDigit? b with
    | some x, some y => some (BitVec.ofNat 8 (16 * x + y))
    | _, _ => none
  | _ => none

/-- Every piece of a text between commas, read by `p`. -/
def parseList (p : Text → Option α) (t : Text) : Option (List α) :=
  (splitChar ',' t).mapM p

/-- The value a word stands for in a table of words. -/
def parseWord (ws : List (String × α)) (t : Text) : Option α :=
  match ws with
  | [] => none
  | (w, a) :: r => if w.toList = t then some a else parseWord r t

/-- A word with one argument in round brackets: its word and its argument. -/
def parseCall (t : Text) : Option (Text × Text) :=
  match splitChar '(' t with
  | [w, r] =>
    match r.reverse with
    | ')' :: a => some (w, a.reverse)
    | _ => none
  | _ => none

/-! ### The words of the fields -/

def yesNoWords : List (String × Bool) := [("YES", true), ("NO", false)]
def trackWords : List (String × Track) := [("UP", .up), ("DOWN", .down), ("TURNBACK", .turnback), ("DEPOT", .depot)]
def dirWords : List (String × Dir) := [("UP", .up), ("DOWN", .down)]
def unitKindWords : List (String × UnitKind) := [("TRACK", .track), ("POWER", .power), ("STATION", .station)]
def breakerKindWords : List (String × BreakerKind) := [("FEEDER", .feeder), ("TIE", .tie)]
def recKindWords : List (String × RecKind) :=
  [("STATION", .station), ("SEGMENT", .segment), ("SECTION", .powerSection), ("SUBSTATION", .substation),
   ("BREAKER", .breaker), ("UNIT", .unit), ("PARAMS", .params)]
/-- The modes that a request may name as its target (R168, R176). -/
def modeWords : List (String × Mode) :=
  [("TRAFFIC", .traffic), ("REDUCED", .reduced), ("NIGHT_LIVE", .nightLive), ("NIGHT_HELD", .nightHeld)]
def methodWords : List (String × Method) := [("SCHEDULE", .schedule), ("HEADWAY", .headway)]
def paramSetWords : List (String × ParamSet) := [("PEAK", .peak), ("OFF_PEAK", .offPeak)]
def actionWords : List (String × Action) := [("OPEN", .opening), ("CLOSE", .closing)]
def classWords : List (String × IncClass) :=
  [("TRAIN_STOPPED", .trainStopped), ("POWER_TRIP", .powerTrip), ("POWER_DISCREPANCY", .powerDiscrepancy),
   ("PASSENGER_ALARM", .passengerAlarm), ("PLATFORM_FAULT", .platformFault), ("OBSTRUCTION", .obstruction),
   ("FIELD_SILENCE", .fieldSilence), ("TRACK_DISCREPANCY", .trackDiscrepancy), ("OPERATOR", .operator)]
def priorityWords : List (String × Priority) :=
  [("EMERGENCY", .emergency), ("SAFETY", .safety), ("SERVICE", .service), ("INFORMATION", .information)]
def scopeRuleWords : List (String × ScopeRule) := [("LOCATION", .location), ("LINE", .line)]
def kindWords : List (String × InKind) :=
  [("TRACK_EVENT", .trackEvent), ("TRACK_STATUS", .trackStatus), ("POWER_STATUS", .powerStatus),
   ("SELECT_ECHO", .selectEcho), ("REVOKE_ECHO", .revokeEcho), ("STATION_STATUS", .stationStatus),
   ("PLAY_END", .playEnd), ("ALARM", .alarm)]
def slotWords : List (String × SlotKind) :=
  [("STATION", .station), ("MINUTES", .minutes), ("PLATFORM", .platform), ("TRAIN", .train)]
/-- The actions that INCIDENT_RELEASE may name (R148). -/
def releaseWords : List (String × ReleaseKind) :=
  [("HOLD_PLATFORM", .holdPlatform), ("HOLD_TRAIN", .holdTrain), ("DEENERGISE", .deenergise), ("ANNOUNCE", .announce)]

/-! ### Values that are more than a number or a word -/

/-- A location (R133, R179). -/
def parseLocation (t : Text) : Option Location :=
  if t = "LINE".toList then some .line
  else
    match parseCall t with
    | some (w, a) =>
      match parseNum a with
      | some n =>
        parseWord [("SEGMENT", Location.segment n), ("STATION", .station n), ("SECTION", .powerSection n),
          ("UNIT", .unit n)] w
      | none => none
    | none => none

/-- The location rule of a pattern (R34). -/
def parseLocationRule (t : Text) : Option LocationRule :=
  if t = "UNIT_LOCATION".toList then some .unitLocation else (parseLocation t).map .fixed

/-- A template element (R151). A text that is neither PHRASE with a number nor SLOT with one of the four kinds has not the form of an element:
the line is refused in R181, field elements, without a position and before the index is looked at (R152, R181; log 65). -/
def parseElement (t : Text) : Option Element :=
  match parseCall t with
  | some (w, a) =>
    if w = "PHRASE".toList then (parseNum a).map .phrase
    else if w = "SLOT".toList then (parseWord slotWords a).map .slot
    else none
  | none => none

def parseAll (t : Text) : Option OneOrAll :=
  if t = "ALL".toList then some .all else (parseNum t).map .one
def parseNone (t : Text) : Option OneOrNone :=
  if t = "NONE".toList then some .none else (parseNum t).map .one
def parseAdapt (t : Text) : Option OneOrAdapt :=
  if t = "ADAPT".toList then some .adapt else (parseNum t).map .one
def parseAny (t : Text) : Option OneOrAny :=
  if t = "ANY".toList then some .any else (parseNum t).map .one
def parseKindAny (t : Text) : Option KindOrAny :=
  if t = "ANY".toList then some .any else (parseWord kindWords t).map .kind
def parseRepeat (t : Text) : Option Repeat :=
  if t = "CONTINUOUS".toList then some .continuous else (parseNum t).map .times
def parseScope (t : Text) : Option ScopeArg :=
  if t = "ALL".toList then some .all else (parseList parseNum t).map .stations

/-- A number or a hyphen, for an absent value inside a list (R179). -/
def parseMaybe (t : Text) : Option (Option Nat) :=
  if t = ['-'] then some none else (parseNum t).map some

/-- Pairs of section and tokens, written one after the other (R7; log 4). -/
def pairUp : List Nat → Option (List (Nat × Nat))
  | [] => some []
  | a :: b :: r => (pairUp r).map ((a, b) :: ·)
  | [_] => none

/-- Timing points, four values each: station, arrival, departure, dwell (R65; log 4). A station or a dwell left absent makes the list
ill-formed, so that the line is refused before the checks of R67 (log 54). -/
def pointUp : List (Option Nat) → Option (List TimingPoint)
  | [] => some []
  | some st :: a :: d :: some w :: r =>
    (pointUp r).map ({ station := st, arrival := a, departure := d, dwell := w } :: ·)
  | _ => none

def parsePairs (t : Text) : Option (List (Nat × Nat)) := (parseList parseNum t).bind pairUp
def parsePoints (t : Text) : Option (List TimingPoint) := (parseList parseMaybe t).bind pointUp

/-! ### Fields of a line -/

/-- The fields of a line as written: name and value. -/
abbrev RawFields := List (Text × Text)

/-- The value written for a field, if any. -/
def RawFields.text? (f : RawFields) (name : String) : Option Text :=
  match f with
  | [] => none
  | (n, v) :: r => if n = name.toList then some v else RawFields.text? r name

/-- A field's value; a hyphen is an absent value (R179). -/
def RawFields.get (f : RawFields) (name : String) (p : Text → Option α) : Option α :=
  match f.text? name with
  | some v => if v = ['-'] then none else p v
  | none => none

/-- A list field's value; a hyphen is the empty list. -/
def RawFields.getList (f : RawFields) (name : String) (p : Text → Option (List α)) : Option (List α) :=
  match f.text? name with
  | some v => if v = ['-'] then some [] else p v
  | none => none

/-- A field that a request's rule names: its name, and whether a value has the form the field takes (R181). -/
structure FieldForm where
  name : String
  ok : Text → Bool

/-- The form of a field whose values are read by `p`; an absent value has every form. -/
def form (name : String) (p : Text → Option α) : FieldForm :=
  { name := name, ok := fun t => decide (t = ['-']) || (p t).isSome }

def fNum (name : String) : FieldForm := form name parseNum
def fYesNo (name : String) : FieldForm := form name (parseWord yesNoWords)
def RawFields.num (f : RawFields) (name : String) : Option Nat := f.get name parseNum
def RawFields.yesNo (f : RawFields) (name : String) : Option Bool := f.get name (parseWord yesNoWords)

def whatWord (w : String) (v : What) : List (String × What) := [(w, v)]

/-- One row of the table of requests (11.4): its name and the letter it begins with, its fields, and the command it spells. -/
structure RequestForm where
  initial : Char
  name : String
  fields : List FieldForm
  build : Nat → RawFields → Instr

/-- The fields of LINE_LOAD_RECORD, all kinds together (R12; their names log 4). -/
def recordForms : List FieldForm :=
  [form "kind" (parseWord recKindWords), fNum "index", fNum "name", fYesNo "terminal", fNum "unit", fYesNo "arrival",
   form "track" (parseWord trackWords), fNum "successor", fNum "alternate", fNum "platform", fNum "section",
   fNum "nominal", form "filter" parseAdapt, fNum "lower", fNum "upper",
   form "feeders" (parseList parseNum), fYesNo "keep-live", fYesNo "auto-reclose", form "contributions" parsePairs,
   form "breaker_kind" (parseWord breakerKindWords), fNum "number", form "sections" (parseList parseNum),
   fNum "address", form "unit_kind" (parseWord unitKindWords), fNum "silence_limit", fYesNo "silence-incident_flag",
   fNum "boundary", fNum "number_base", fNum "delay_template", fNum "arrival_template", fNum "all-clear_template"]

def recordOf (f : RawFields) : RecordFields :=
  { kind := f.get "kind" (parseWord recKindWords), index := f.num "index", name := f.num "name",
    terminal := f.yesNo "terminal", unit := f.num "unit", arrival := f.yesNo "arrival",
    track := f.get "track" (parseWord trackWords), successor := f.num "successor", alternate := f.num "alternate",
    platform := f.num "platform", section_ := f.num "section", nominal := f.num "nominal",
    filter := f.get "filter" parseAdapt, lower := f.num "lower", upper := f.num "upper",
    feeders := f.getList "feeders" (parseList parseNum), keepLive := f.yesNo "keep-live",
    autoReclose := f.yesNo "auto-reclose", contributions := f.getList "contributions" parsePairs,
    breakerKind := f.get "breaker_kind" (parseWord breakerKindWords), number := f.num "number",
    sections := f.get "sections" (parseList parseNum), address := f.num "address",
    unitKind := f.get "unit_kind" (parseWord unitKindWords), silence := f.num "silence_limit",
    silenceIncident := f.yesNo "silence-incident_flag", boundary := f.num "boundary", numberBase := f.num "number_base",
    delayTemplate := f.num "delay_template", arrivalTemplate := f.num "arrival_template",
    allClearTemplate := f.num "all-clear_template" }

def patternForms : List FieldForm :=
  [fNum "index", fYesNo "enabled", fNum "address_value", fNum "address_mask", form "kind" parseKindAny,
   form "length" parseAny, fNum "offset", form "compare_octets" (parseList parseOctet),
   form "mask_octets" (parseList parseOctet), form "class" (parseWord classWords), fNum "severity",
   form "location" parseLocationRule, fYesNo "one-shot"]

def patternOf (f : RawFields) : PatternFields :=
  { index := f.num "index", enabled := f.yesNo "enabled", addressValue := f.num "address_value",
    addressMask := f.num "address_mask", kind := f.get "kind" parseKindAny, length := f.get "length" parseAny,
    offset := f.num "offset", compare := f.get "compare_octets" (parseList parseOctet),
    mask := f.get "mask_octets" (parseList parseOctet), cls := f.get "class" (parseWord classWords),
    severity := f.num "severity", location := f.get "location" parseLocationRule, oneShot := f.yesNo "one-shot" }

def responseForms : List FieldForm :=
  [form "class" (parseWord classWords), fNum "severity", fNum "hold-upstream", fYesNo "hold-in-place",
   fYesNo "de-energise", form "template" parseNone, form "priority" (parseWord priorityWords),
   form "scope_rule" (parseWord scopeRuleWords), fYesNo "escalate", fYesNo "all-clear"]

def responseOf (f : RawFields) : ResponseFields :=
  { cls := f.get "class" (parseWord classWords), severity := f.num "severity", upstream := f.num "hold-upstream",
    inPlace := f.yesNo "hold-in-place", deenergise := f.yesNo "de-energise", template := f.get "template" parseNone,
    priority := f.get "priority" (parseWord priorityWords), scope := f.get "scope_rule" (parseWord scopeRuleWords),
    escalate := f.yesNo "escalate", allClear := f.yesNo "all-clear" }

/-- The fields of ANNOUNCE, by the names of R153 and R155 (log 4). -/
def postForms : List FieldForm :=
  [fNum "template", fNum "station", fNum "minutes", fNum "platform", fNum "train",
   form "priority" (parseWord priorityWords), form "scope" parseScope, form "repeat" parseRepeat,
   fNum "repeat_interval", fNum "expiry_duration", fYesNo "display_flag"]

def postOf (f : RawFields) : PostFields :=
  { template := f.num "template", station := f.num "station", minutes := f.num "minutes",
    platform := f.num "platform", train := f.num "train", priority := f.get "priority" (parseWord priorityWords),
    scope := f.get "scope" parseScope, rep := f.get "repeat" parseRepeat, interval := f.num "repeat_interval",
    expiry := f.num "expiry_duration", display := f.yesNo "display_flag" }

/-- The requests of the line model, the wayside link and the train tracker. -/
def requestsA : List RequestForm :=
  [{ initial := 'L', name := "LINE_LOAD_BEGIN", fields := [], build := fun t _ => .lineLoadBegin t },
   { initial := 'L', name := "LINE_LOAD_RECORD", fields := recordForms, build := fun t f => .lineLoadRecord t (recordOf f) },
   { initial := 'L', name := "LINE_LOAD_COMMIT", fields := [], build := fun t _ => .lineLoadCommit t },
   { initial := 'T', name := "TIME_SET", fields := [fNum "time"], build := fun t f => .timeSet t (f.num "time") },
   { initial := 'U', name := "UNIT_QUERY", fields := [fNum "address"], build := fun t f => .unitQuery t (f.num "address") },
   { initial := 'P', name := "PATTERN_SET", fields := patternForms, build := fun t f => .patternSet t (patternOf f) },
   { initial := 'P', name := "PATTERN_ARM", fields := [], build := fun t _ => .patternArm t },
   { initial := 'P', name := "PATTERN_QUERY", fields := [fNum "index"], build := fun t f => .patternQuery t (f.num "index") },
   { initial := 'S', name := "STALL_LIMIT_SET", fields := [fNum "limit"], build := fun t f => .stallLimitSet t (f.num "limit") },
   { initial := 'T', name := "TRAIN_SET_NUMBER", fields := [fNum "segment", fNum "number", fNum "tail"],
     build := fun t f => .trainSetNumber t (f.num "segment") (f.num "number") (f.num "tail") },
   { initial := 'T', name := "TRAIN_SET_DRAW", fields := [fNum "number", fNum "draw_class"],
     build := fun t f => .trainSetDraw t (f.num "number") (f.num "draw_class") },
   { initial := 'T', name := "TRAIN_WITHDRAW", fields := [fNum "number"], build := fun t f => .trainWithdraw t (f.num "number") },
   { initial := 'T', name := "TRAIN_QUERY", fields := [fNum "number", form "what" (parseWord (whatWord "SEGMENTS" .segments))],
     build := fun t f =>
       .trainQuery t (f.num "number") (f.get "what" (parseWord (whatWord "SEGMENTS" .segments))) }]

/-- The requests of the line store and the service regulator. The names of TT_ADD_TRIP's fields are of log 4. -/
def requestsB : List RequestForm :=
  [{ initial := 'S', name := "STORE_QUERY", fields := [], build := fun t _ => .storeQuery t },
   { initial := 'T', name := "TT_OPEN", fields := [fNum "slot", fNum "name_code"],
     build := fun t f => .ttOpen t (f.num "slot") (f.num "name_code") },
   { initial := 'T', name := "TT_ABANDON", fields := [fNum "slot"], build := fun t f => .ttAbandon t (f.num "slot") },
   { initial := 'T', name := "TT_ADD_TRIP",
     fields := [fNum "slot", fNum "trip", fNum "run_number", form "direction" (parseWord dirWords), fNum "start",
       form "timing_points" parsePoints],
     build := fun t f =>
       .ttAddTrip t { slot := f.num "slot", trip := f.num "trip", run := f.num "run_number",
                      direction := f.get "direction" (parseWord dirWords), start := f.num "start",
                      points := f.getList "timing_points" parsePoints } },
   { initial := 'T', name := "TT_CLOSE", fields := [fNum "slot"], build := fun t f => .ttClose t (f.num "slot") },
   { initial := 'T', name := "TT_ACTIVATE", fields := [form "slot" parseNone],
     build := fun t f => .ttActivate t (f.get "slot" parseNone) },
   { initial := 'T', name := "TT_SCHEDULE", fields := [form "slot" parseNone],
     build := fun t f => .ttSchedule t (f.get "slot" parseNone) },
   { initial := 'T', name := "TT_QUERY", fields := [fNum "slot", fNum "trip"],
     build := fun t f => .ttQuery t (f.num "slot") (f.num "trip") },
   { initial := 'T', name := "TRIP_ASSIGN", fields := [fNum "train", fNum "trip"],
     build := fun t f => .tripAssign t (f.num "train") (f.num "trip") },
   { initial := 'T', name := "TRIP_CANCEL", fields := [fNum "trip"], build := fun t f => .tripCancel t (f.num "trip") },
   { initial := 'T', name := "TRIP_QUERY", fields := [fNum "trip", form "what" (parseWord (whatWord "PLATFORMS" .platforms))],
     build := fun t f =>
       .tripQuery t (f.num "trip") (f.get "what" (parseWord (whatWord "PLATFORMS" .platforms))) },
   { initial := 'H', name := "HOLD_TRAIN", fields := [fNum "train"], build := fun t f => .holdTrain t (f.num "train") },
   { initial := 'R', name := "RELEASE_TRAIN", fields := [fNum "train"], build := fun t f => .releaseTrain t (f.num "train") },
   { initial := 'H', name := "HOLD_PLATFORM", fields := [fNum "platform"], build := fun t f => .holdPlatform t (f.num "platform") },
   { initial := 'R', name := "RELEASE_PLATFORM", fields := [fNum "platform"],
     build := fun t f => .releasePlatform t (f.num "platform") },
   { initial := 'R', name := "REGULATION_SET",
     fields := [form "set" (parseWord paramSetWords), form "method" (parseWord methodWords), fNum "target_headway",
       fNum "early_tolerance", fNum "start_window"],
     build := fun t f =>
       .regulationSet t { set := f.get "set" (parseWord paramSetWords), method := f.get "method" (parseWord methodWords),
                          headway := f.num "target_headway", tolerance := f.num "early_tolerance",
                          window := f.num "start_window" } },
   { initial := 'D', name := "DELAY_SET", fields := [fNum "on-threshold", fNum "off-threshold"],
     build := fun t f => .delaySet t (f.num "on-threshold") (f.num "off-threshold") },
   { initial := 'A', name := "AUTHORITY_CLEAR", fields := [fNum "train"], build := fun t f => .authorityClear t (f.num "train") },
   { initial := 'L', name := "LEARN_SET",
     fields := [fNum "segment", form "filter" parseAdapt, fNum "lower", fNum "upper"],
     build := fun t f =>
       .learnSet t (f.num "segment") (f.get "filter" parseAdapt) (f.num "lower") (f.num "upper") },
   { initial := 'L', name := "LEARN_RESET", fields := [form "segment" parseAll],
     build := fun t f => .learnReset t (f.get "segment" parseAll) },
   { initial := 'L', name := "LEARN_QUERY", fields := [fNum "segment"], build := fun t f => .learnQuery t (f.num "segment") }]

/-- The requests of traction power, permits and incidents. INCIDENT_RELEASE names its action by a word and the platform, train, section or
entry of it by the one field index; the ids are in the field id (log 4). -/
def requestsC : List RequestForm :=
  [{ initial := 'E', name := "ENERGISE", fields := [fNum "section"], build := fun t f => .energise t (f.num "section") },
   { initial := 'E', name := "ENERGISE_ALL", fields := [], build := fun t _ => .energiseAll t },
   { initial := 'D', name := "DEENERGISE", fields := [fNum "section"], build := fun t f => .deenergise t (f.num "section") },
   { initial := 'B', name := "BREAKER_COMMAND", fields := [fNum "breaker", form "action" (parseWord actionWords)],
     build := fun t f => .breakerCommand t (f.num "breaker") (f.get "action" (parseWord actionWords)) },
   { initial := 'H', name := "HOLD_RELEASE", fields := [form "section" parseAll],
     build := fun t f => .holdRelease t (f.get "section" parseAll) },
   { initial := 'S', name := "SECTION_QUERY",
     fields := [fNum "section", form "what" (parseWord [("BREAKERS", What.breakers), ("GRANTS", .grants)])],
     build := fun t f =>
       .sectionQuery t (f.num "section") (f.get "what" (parseWord [("BREAKERS", .breakers), ("GRANTS", .grants)])) },
   { initial := 'P', name := "PERMIT_REQUEST", fields := [fNum "section", fNum "holder_code"],
     build := fun t f => .permitRequest t (f.num "section") (f.num "holder_code") },
   { initial := 'P', name := "PERMIT_CANCEL", fields := [fNum "id"], build := fun t f => .permitCancel t (f.num "id") },
   { initial := 'P', name := "PERMIT_SURRENDER", fields := [fNum "id", fNum "holder_code"],
     build := fun t f => .permitSurrender t (f.num "id") (f.num "holder_code") },
   { initial := 'P', name := "PERMIT_QUERY", fields := [fNum "id", fNum "section"],
     build := fun t f => .permitQuery t (f.num "id") (f.num "section") },
   { initial := 'E', name := "ESCALATION_SET", fields := [form "class" (parseWord classWords), fNum "period"],
     build := fun t f => .escalationSet t (f.get "class" (parseWord classWords)) (f.num "period") },
   { initial := 'R', name := "RESPONSE_SET", fields := responseForms, build := fun t f => .responseSet t (responseOf f) },
   { initial := 'I', name := "INCIDENT_RAISE",
     fields := [form "class" (parseWord classWords), fNum "severity", form "location" parseLocation, fNum "note_code"],
     build := fun t f =>
       .incidentRaise t (f.get "class" (parseWord classWords)) (f.num "severity") (f.get "location" parseLocation)
         (f.num "note_code") },
   { initial := 'I', name := "INCIDENT_ACK", fields := [fNum "id", fNum "note_code"],
     build := fun t f => .incidentAck t (f.num "id") (f.num "note_code") },
   { initial := 'I', name := "INCIDENT_CONTAIN", fields := [fNum "id", fNum "note_code"],
     build := fun t f => .incidentContain t (f.num "id") (f.num "note_code") },
   { initial := 'I', name := "INCIDENT_CLOSE", fields := [fNum "id", fNum "note_code"],
     build := fun t f => .incidentClose t (f.num "id") (f.num "note_code") },
   { initial := 'I', name := "INCIDENT_RELEASE", fields := [fNum "id", form "action" (parseWord releaseWords), fNum "index"],
     build := fun t f =>
       .incidentRelease t (f.num "id") (f.get "action" (parseWord releaseWords)) (f.num "index") },
   { initial := 'I', name := "INCIDENT_RETIRE", fields := [fNum "id"], build := fun t f => .incidentRetire t (f.num "id") },
   { initial := 'I', name := "INCIDENT_QUERY",
     fields := [fNum "id", form "what" (parseWord [("OPEN", What.opened), ("RESPONSES", .responses)])],
     build := fun t f =>
       .incidentQuery t (f.num "id") (f.get "what" (parseWord [("OPEN", .opened), ("RESPONSES", .responses)])) }]

/-- The requests of announcements and line modes. -/
def requestsD : List RequestForm :=
  [{ initial := 'T', name := "TEMPLATE_LOAD", fields := [fNum "index", form "elements" (parseList parseElement)],
     build := fun t f => .templateLoad t (f.num "index") (f.getList "elements" (parseList parseElement)) },
   { initial := 'A', name := "ANNOUNCE", fields := postForms, build := fun t f => .announce t (postOf f) },
   { initial := 'W', name := "WITHDRAW", fields := [fNum "id"], build := fun t f => .withdraw t (f.num "id") },
   { initial := 'A', name := "ANNOUNCE_QUERY", fields := [fNum "id", form "what" (parseWord (whatWord "TEMPLATES" .templates))],
     build := fun t f =>
       .announceQuery t (f.num "id") (f.get "what" (parseWord (whatWord "TEMPLATES" .templates))) },
   { initial := 'Z', name := "ZONE_QUERY", fields := [fNum "station"], build := fun t f => .zoneQuery t (f.num "station") },
   { initial := 'M', name := "MODE_REQUEST", fields := [form "target" (parseWord modeWords), fYesNo "escalate"],
     build := fun t f => .modeRequest t (f.get "target" (parseWord modeWords)) (f.yesNo "escalate") },
   { initial := 'R', name := "RESTART", fields := [], build := fun t _ => .restart t },
   { initial := 'S', name := "SURVEY_END", fields := [form "target" (parseWord modeWords)],
     build := fun t f => .surveyEnd t (f.get "target" (parseWord modeWords)) },
   { initial := 'S', name := "STATUS_QUERY", fields := [], build := fun t _ => .statusQuery t }]

/-- The table of requests (11.4). -/
def requestTable : List RequestForm := requestsA ++ (requestsB ++ (requestsC ++ requestsD))

/-! ### Reading a line -/

/-- Why a line is refused by the CLP (R181). -/
inductive LineFault where
  | tag
  | unknownRequest (tag : Nat)
  | field (tag : Nat) (name : Text)
deriving DecidableEq, Repr

/-- What the CLP makes of a line: a request for its owning block, or a refusal. -/
inductive LineReading where
  | request (i : Instr)
  | refused (f : LineFault)
deriving DecidableEq, Repr

/-- A field as written: a lower-case name, an equals sign and a value (R179). -/
def splitField (t : Text) : Text × Option Text :=
  match splitChar '=' t with
  | [n, v] => (n, some v)
  | n :: _ => (n, none)
  | [] => ([], none)

/-- The fields of a line in the order written, or the name of the first at fault: one that is not of the form of R179, is not
named by the request's rule, appears twice, or has a value of another form than its field takes (R181). -/
def readFields (forms : List FieldForm) (seen : RawFields) : List Text → Except Text RawFields
  | [] => .ok seen.reverse
  | p :: ps =>
    match splitField p with
    | (n, none) => .error n
    | (n, some v) =>
      match forms.find? (fun f => decide (f.name.toList = n)) with
      | none => .error n
      | some f =>
        if (seen.any fun q => decide (q.1 = n)) || decide (v = []) || !f.ok v then .error n
        else readFields forms ((n, v) :: seen) ps

/-- The parts of a line before its check (R179). -/
def lineParts (line : Text) : List Text :=
  match (splitChar ' ' line).reverse with
  | ['*', _, _] :: r => r.reverse
  | r => r.reverse

/-- The request named by a word (11.4); the first letter is compared first. -/
def findRequest (w : Text) : Option RequestForm :=
  requestTable.find? fun r => decide (w.head? = some r.initial) && decide (r.name.toList = w)

/-- The request a line spells, or why the CLP refuses it (R181). -/
def readLine (line : Text) : LineReading :=
  match lineParts line with
  | [] => .refused .tag
  | tagText :: rest =>
    match parseTag tagText with
    | none => .refused .tag
    | some tag =>
      match rest with
      | [] => .refused (.unknownRequest tag)
      | word :: fields =>
        match findRequest word with
        | none => .refused (.unknownRequest tag)
        | some r =>
          match readFields r.fields [] fields with
          | .error n => .refused (.field tag n)
          | .ok f => .request (r.build tag f)

/-! ### The check of a line (R179, R180) -/

/-- The sum of the character codes of a text. -/
def codeSum : Text → Nat
  | [] => 0
  | c :: cs => c.toNat + codeSum cs

/-- A line ends with an asterisk and two hexadecimal digits equal to the sum, modulo 256, of the codes of every character
before the asterisk (R179, R180). -/
def checkOk (line : Text) : Bool :=
  match line.reverse with
  | b :: a :: '*' :: r =>
    match hexDigit? a, hexDigit? b with
    | some x, some y => decide (16 * x + y = codeSum r % 256)
    | _, _ => false
  | _ => false

end Sys2Proof
end

