-- ==== Sys2Proof/Config.lean ====
section
/-!
DEFINITION. What the manual leaves to the part: the one value it never gives a way to compute.
-/

namespace Sys2Proof

/-- The 16-bit check value of a slot, computed at TT_CLOSE over the trips in order (R65, R68). The manual does not say how it
is computed, so nothing is known of it but that it depends on the trips alone: a free value (log 8). -/
opaque Config.slotCheck : List TripRecord → BitVec 16

end Sys2Proof
end

