-- ==== Sys2Proof/Machine/State.lean ====
section
/-!
DEFINITION. The state of the part, block by block, as plain data; the two reason types of a stop; the machine right after reset.
-/

namespace Sys2Proof.Machine

/-! ### Why a step could stop -/

/-- Faults. No rule of the manual stops the part, so no meaning answers with one. -/
inductive Fault where
  /-- Raised by no meaning: the manual gives every step of the table its effect. Safe: it is never taken. -/
  | none
deriving DecidableEq, Repr

/-- Refusals. -/
inductive Refusal where
  /-- Raised by the dispatcher alone, for a row of the table without a meaning. Safe: the model stops. -/
  | notModelled (mnemonic : String)
deriving DecidableEq, Repr

/-! ### Lines the part sends (R179, R182, R183) -/

/-- One value of a field, without commas (R179). -/
inductive Atom where
  | num (n : Int)
  | word (w : String)
  | call (w : String) (args : List Int)
  | text (w : String) (arg : String)
  | absent
deriving DecidableEq, Repr

/-- The value of a field: one value, or a list separated by commas (R179). -/
inductive Value where
  | one (a : Atom)
  | list (l : List Atom)
  | octets (l : List Octet)
deriving DecidableEq, Repr

/-- A field of an outgoing line: its name and its value. -/
structure Field where
  name : String
  value : Value
deriving DecidableEq, Repr

/-- The sixteen reasons of a REFUSED reply (11.4). -/
inductive Reason where
  | mode | busy | unknownRequest | badField | notFound | state | full | permitOpen | held | trainsPresent
  | trainsOut | holder | storeBusy | check | tooLong | linkBusy
deriving DecidableEq, Repr

/-- The ten notice kinds (R183). -/
inductive NoticeKind where
  | mode | train | trip | section_ | permit | incident | announce | unit | store | pattern
deriving DecidableEq, Repr

/-- A line the part sends: a reply, a line of a reply block, or a notice (R182, R183). -/
inductive OutLine where
  | ok (tag : Nat) (fields : List Field)
  | refused (tag : Nat) (reason : Reason) (details : List Field)
  | block (tag : Nat) (count : Nat)
  | record (tag : Nat) (word : String) (fields : List Field)
  | notice (kind : NoticeKind) (summary : List Field)
deriving DecidableEq, Repr

/-- The outstanding flag of each notice kind (R183). -/
structure NoticeFlags where
  mode : Bool
  train : Bool
  trip : Bool
  section_ : Bool
  permit : Bool
  incident : Bool
  announce : Bool
  unit : Bool
  store : Bool
  pattern : Bool
deriving DecidableEq, Repr

/-- The control-link port (R180 to R183). -/
structure Clp where
  inbound : List Text
  flags : NoticeFlags
  restartDue : Bool
  sent : List OutLine
deriving DecidableEq, Repr

/-! ### The line description (R2 to R10) -/

structure Station where
  index : Nat
  name : Nat
  terminal : Bool
  unit : Nat
  arrival : Bool
deriving DecidableEq, Repr

structure Segment where
  index : Nat
  track : Track
  successor : Option Nat
  alternate : Option Nat
  platform : Option Nat
  sec : Nat
  unit : Nat
  nominal : Nat
  filter : Filter
  lower : Nat
  upper : Nat
deriving DecidableEq, Repr

structure SectionDesc where
  index : Nat
  feeders : List Nat
  keepLive : Bool
  autoReclose : Bool
deriving DecidableEq, Repr

structure Substation where
  index : Nat
  unit : Nat
  contributions : List (Nat × Nat)
deriving DecidableEq, Repr

structure BreakerDesc where
  index : Nat
  kind : BreakerKind
  unit : Nat
  number : Nat
  sections : List Nat
deriving DecidableEq, Repr

structure UnitDesc where
  address : Nat
  kind : UnitKind
  silence : Nat
  silenceIncident : Bool
deriving DecidableEq, Repr

structure LineParams where
  boundary : Nat
  numberBase : Nat
  delayTemplate : Nat
  arrivalTemplate : Nat
  allClearTemplate : Nat
deriving DecidableEq, Repr

/-- A line description: each list in ascending index, units in ascending address. -/
structure Description where
  stations : List Station
  segments : List Segment
  sections : List SectionDesc
  substations : List Substation
  breakers : List BreakerDesc
  units : List UnitDesc
  params : LineParams
deriving DecidableEq, Repr

/-- The defaults of the line parameters (R10). -/
def LineParams.default : LineParams :=
  { boundary := 10800, numberBase := 0, delayTemplate := 0, arrivalTemplate := 1, allClearTemplate := 2 }

/-- A description with no records and the default parameters (R1, R11). -/
def Description.empty : Description :=
  { stations := [], segments := [], sections := [], substations := [], breakers := [], units := [],
    params := LineParams.default }

/-! ### Line mode controller (R1, R11, R16, R17, R166, R172) -/

inductive Session where
  | closed | opened | committing
deriving DecidableEq, Repr

inductive ModeCause where
  | start | request | surveyEnd | escalate
deriving DecidableEq, Repr

inductive Readiness where
  | notReady | nightReady | dayReady
deriving DecidableEq, Repr

inductive StartCause where
  | powerOn | restart
deriving DecidableEq, Repr

/-- The last change of mode (R166). -/
structure ModeChange where
  old : Option Mode
  new : Mode
  cause : ModeCause
  time : Nat
  incident : Option Nat
deriving DecidableEq, Repr

/-- The start record (R172). -/
structure StartRecord where
  cause : StartCause
  count : Nat
  lineTime : Nat
  timeSet : Bool
  restarts : Nat
deriving DecidableEq, Repr

structure Lmc where
  count : Nat
  lineTime : Nat
  timeSet : Bool
  boundaryDue : Bool
  session : Session
  staged : Description
  working : Description
  mode : Mode
  escalation : Bool
  heldCount : Nat
  lastChange : ModeChange
  readiness : Option Readiness
  startRecord : StartRecord
deriving DecidableEq, Repr

/-! ### Line store (R59 to R65, R70) -/

/-- The line description region (R1, R59). -/
inductive LineRegion where
  | neverWritten
  | whole (d : Description)
  | damaged
deriving DecidableEq, Repr

inductive SlotState where
  | empty | writing | committing | valid | damaged
deriving DecidableEq, Repr

/-- A timetable slot: its directory and its stored trips (R65, R68). -/
structure Slot where
  state : SlotState
  name : Nat
  tripCount : Nat
  pointCount : Nat
  check : BitVec 16
  content : List TripRecord
  pages : Nat
  pagesDone : Nat
deriving DecidableEq, Repr

/-- A place of the template library: its template, if any, and its DAMAGED mark (R151). -/
structure TemplatePlace where
  index : Nat
  elements : List Element
  damaged : Bool
deriving DecidableEq, Repr

/-- The content of a response entry (R139). -/
structure Response where
  upstream : Nat
  inPlace : Bool
  deenergise : Bool
  template : Option Nat
  priority : Priority
  scope : ScopeRule
  escalate : Bool
  allClear : Bool
deriving DecidableEq, Repr

/-- The empty values of a response entry (R139). -/
def Response.empty : Response :=
  { upstream := 0, inPlace := false, deenergise := false, template := none, priority := .information,
    scope := .location, escalate := false, allClear := false }

/-- An entry of the response table that has been written (R139). -/
structure ResponsePlace where
  cls : IncClass
  severity : Nat
  entry : Response
  damaged : Bool
deriving DecidableEq, Repr

/-- A permit record of the store (R127). -/
structure PermitRecord where
  place : Nat
  id : Nat
  sec : Nat
  holder : Nat
  requested : Nat
deriving DecidableEq, Repr

/-- A store operation (R60). -/
inductive StoreOp where
  | permitWrite (r : PermitRecord)
  | permitErase (place : Nat)
  | templateWrite (index : Nat) (elements : List Element)
  | responseWrite (cls : IncClass) (severity : Nat) (entry : Response)
  | indexWrite
  | commit (slot : Nat)
  | lineDescription (d : Description)
deriving DecidableEq, Repr

/-- The operation in flight; an index write has taken its two values, a commit is at one page (R61, R70). -/
inductive InFlight where
  | permitWrite (r : PermitRecord)
  | permitErase (place : Nat)
  | templateWrite (index : Nat) (elements : List Element)
  | responseWrite (cls : IncClass) (severity : Nat) (entry : Response)
  | indexWrite (active scheduled : Option Nat)
  | commitPage (slot : Nat)
  | lineDescription (d : Description)
deriving DecidableEq, Repr

/-- The line store. `templates` and `responses` list the places that have been written, in ascending order. -/
structure Lst where
  lineRegion : LineRegion
  slots : List Slot
  buffer : List TripRecord
  templates : List TemplatePlace
  responses : List ResponsePlace
  permits : List PermitRecord
  storedActive : Option Nat
  storedScheduled : Option Nat
  indicesDamaged : Bool
  active : Option Nat
  scheduled : Option Nat
  indexDue : Bool
  permitList : List StoreOp
  otherList : List StoreOp
  inFlight : Option InFlight
deriving DecidableEq, Repr

/-! ### Wayside link controller (R20 to R40) -/

/-- What a platform display shows of a train (R164). -/
inductive Indication where
  | minutes (n : Nat)
  | arriving
deriving DecidableEq, Repr

structure DisplayItem where
  train : Nat
  indication : Indication
deriving DecidableEq, Repr

/-- The shown value of a platform (R164). -/
structure Shown where
  first : Option DisplayItem
  second : Option DisplayItem
  closed : Bool
  message : List Nat
deriving DecidableEq, Repr

/-- The contents of the frames the part sends (R20, R185). -/
inductive Body where
  | poll
  | revokeAll
  | authorise (platform train id : Nat)
  | revoke (id : Nat)
  | select (number : Nat) (action : Action) (code : Nat)
  | operate (number code : Nat)
  | cancelSelect (number code : Nat)
  | play (entry : Nat) (override : Bool) (emergency : Bool) (phrases : List Nat)
  | stopPlay (entry : Nat)
  | display (platform : Nat) (shown : Shown)
deriving DecidableEq, Repr

/-- A frame of the outbound queue (R20, R22, R23, R30). -/
structure OutFrame where
  dest : Nat
  body : Body
  sequence : Nat
  tries : Nat
  onLine : Bool
  withdrawing : Bool
  removing : Bool
deriving DecidableEq, Repr

/-- Who has the line (R21). -/
inductive LineUse where
  | free
  | unit
  | part (frame : WireFrame) (dropped : Bool)
deriving DecidableEq, Repr

inductive UnitState where
  | unheard | live | stale
deriving DecidableEq, Repr

/-- A registry record (R27). -/
structure UnitRec where
  address : Nat
  kind : UnitKind
  state : UnitState
  heard : Option Nat
  sequence : Option Nat
  failures : Nat
  silenceExpiry : Nat
  pollPoint : Nat
  pollPassed : Bool
  pollPending : Bool
deriving DecidableEq, Repr

/-- A trigger pattern entry (R34); `spent` is the run state SPENT. -/
structure Pattern where
  enabled : Bool
  addressValue : Nat
  addressMask : Nat
  kind : KindOrAny
  length : OneOrAny
  offset : Nat
  compare : List Octet
  mask : List Octet
  cls : IncClass
  severity : Nat
  location : LocationRule
  oneShot : Bool
  spent : Bool
  matched : Nat
deriving DecidableEq, Repr

/-- An empty pattern entry (R34). -/
def Pattern.empty : Pattern :=
  { enabled := false, addressValue := 0, addressMask := 0, kind := .any, length := .any, offset := 0,
    compare := [0, 0, 0, 0, 0, 0], mask := [0, 0, 0, 0, 0, 0], cls := .operator, severity := 1,
    location := .unitLocation, oneShot := false, spent := false, matched := 0 }

/-- `drivesMark` is what the part has done at the error-mark slot of the unit's frame it judged last (R24). -/
structure Wlc where
  line : LineUse
  drivesMark : Bool
  outQueue : List OutFrame
  seqCounter : Nat
  inBuffer : List WireFrame
  registry : List UnitRec
  patterns : List Pattern
  armed : Bool
  revokeAllPosts : Nat
deriving DecidableEq, Repr

/-! ### Train tracker and the service fields of a train (R41, R42, R83, R85, R88, R94) -/

inductive Occupancy where
  | clear
  | occupied (train : Nat)
  | unidentified
  | unknown
deriving DecidableEq, Repr

structure SegRec where
  index : Nat
  occ : Occupancy
  changed : Option Nat
deriving DecidableEq, Repr

inductive TrainState where
  | inService | positioning | stabled | lost
deriving DecidableEq, Repr

inductive HoldReason where
  | operator
  | incident (id : Nat)
  | power (sec : Nat)
deriving DecidableEq, Repr

inductive AuthState where
  | issued | revoking | unconfirmed
deriving DecidableEq, Repr

/-- A departure authority (R88, R91). `sent` is the authorise frame's SENT; `echoLimit` is the revoke echo limit's expiry. -/
structure Authority where
  id : Nat
  platform : Nat
  state : AuthState
  issuedTime : Nat
  issuedCount : Nat
  sent : Bool
  revokeSends : Nat
  departed : Bool
  echoLimit : Option Nat
deriving DecidableEq, Repr

inductive CallPhase where
  | dwelling | waiting | authorised | departing
deriving DecidableEq, Repr

/-- A regulation parameter set (R87). -/
structure Regulation where
  method : Method
  headway : Nat
  tolerance : Nat
  window : Nat
deriving DecidableEq, Repr

/-- A call at a platform (R85, R92). `regulation` is the parameter set in force when the call began, with the values it then had: the call's
marks are computed from it at its beginning and again when it gains a timing point (R85, R87, R167, R170; log 63). -/
structure Call where
  platform : Nat
  arrivalCount : Nat
  arrivalTime : Nat
  point : Option Nat
  ready : Nat
  target : Nat
  phase : CallPhase
  retry : Option Nat
  departWait : Option Nat
  regulation : Regulation
deriving DecidableEq, Repr

/-- A train record (R42) with its service fields. -/
structure Train where
  number : Nat
  state : TrainState
  head : Nat
  tail : Option Nat
  movement : Nat
  stallMark : Option Nat
  stallBase : Option Nat
  draw : Nat
  trip : Option Nat
  nextPoint : Nat
  deviation : Int
  holds : List HoldReason
  authority : Option Authority
  call : Option Call
  entryMark : Nat
  entryMove : Bool
  delayEntry : Option Nat
deriving DecidableEq, Repr

structure Trk where
  segs : List SegRec
  trains : List Train
  stallLimit : Nat
deriving DecidableEq, Repr

/-! ### Service regulator (R75, R83, R85, R87, R94) -/

inductive TripStatus where
  | pending | running | done | lapsed | cancelled
deriving DecidableEq, Repr

inductive CancelCause where
  | operator | line
deriving DecidableEq, Repr

/-- A record of the trip state table (R75). -/
structure TripState where
  number : Nat
  run : Nat
  direction : Dir
  start : Nat
  status : TripStatus
  train : Option Nat
  actualStart : Option Nat
  deviation : Option Int
  cause : Option CancelCause
deriving DecidableEq, Repr

/-- What the SRG keeps for a platform (R83, R85). -/
structure PlatRec where
  index : Nat
  holds : List HoldReason
  lastDeparture : Option Nat
deriving DecidableEq, Repr

/-- A learned run time, in tenths of a second (R94). -/
structure Learned where
  segment : Nat
  tenths : Nat
deriving DecidableEq, Repr

structure Srg where
  trips : List TripState
  plats : List PlatRec
  peak : Regulation
  offPeak : Regulation
  onThreshold : Nat
  offThreshold : Nat
  learned : List Learned
  authorityLast : Nat
deriving DecidableEq, Repr

/-! ### Traction power controller (R99, R100, R103, R110, R113, R121, R123) -/

inductive SectionState where
  | energised | energising | dead | isolating | isolated | tripped | held | unknown
deriving DecidableEq, Repr

inductive Voltage where
  | present | absent | unknown
deriving DecidableEq, Repr

inductive CmdOutcome where
  | done | echoMismatch | lapsed | failedDelivery | noResult | cancelled
deriving DecidableEq, Repr

inductive SeqOrigin where
  | operator | all | reclose
deriving DecidableEq, Repr

/-- Where a running sequence stands (R114): it has still to take the feeders after `after`; it waits to place the CLOSE of a
feeder; it waits for that command's outcome; it waits for the voltage until an expiry. -/
inductive SeqStep where
  | next (after : Option Nat)
  | placing (breaker : Nat)
  | command (breaker : Nat)
  | confirm (expiry : Nat)
deriving DecidableEq, Repr

/-- A section's entry in the sequence list (R113); `running` absent is WAITING. -/
structure SeqEntry where
  origin : SeqOrigin
  running : Option SeqStep
  closed : List Nat
deriving DecidableEq, Repr

inductive SeqOutcome where
  | done
  | abandoned
  | failedBreaker (breaker : Nat) (outcome : CmdOutcome)
  | failedVoltage
deriving DecidableEq, Repr

/-- A section record (R99). -/
structure SecRec where
  index : Nat
  state : SectionState
  voltage : Voltage
  lockout : Bool
  reclose : Option Nat
  span : Option Nat
  seq : Option SeqEntry
  lastSeq : Option SeqOutcome
  budget : Nat
  window : Option Nat
  claims : List Nat
deriving DecidableEq, Repr

inductive CmdOrigin where
  | sequence | isolation | deenergise | nightHold | correction | operator
deriving DecidableEq, Repr

inductive Position where
  | opened | closed
deriving DecidableEq, Repr

/-- The state of a breaker; a MOVING one keeps its target, its operate limit's expiry and the origin of its command (R100,
R105). -/
inductive BreakerState where
  | opened
  | closed
  | moving (target : Position) (limit : Nat) (origin : CmdOrigin)
  | unknown
deriving DecidableEq, Repr

/-- A breaker record (R100); `owed` is the open-owed mark with the origin of the owed open. `voltage` is the reported voltage,
true for PRESENT. -/
structure BrkRec where
  index : Nat
  state : BreakerState
  outcome : Option CmdOutcome
  position : Option Position
  voltage : Option Bool
  owed : Option CmdOrigin
deriving DecidableEq, Repr

inductive CmdPhase where
  | queued | selecting | selected
deriving DecidableEq, Repr

/-- A breaker command (R103); `unit` is the unit of its breaker. -/
structure Cmd where
  breaker : Nat
  unit : Nat
  action : Action
  origin : CmdOrigin
  phase : CmdPhase
  code : Nat
  window : Option Nat
deriving DecidableEq, Repr

/-- A start grant (R110). -/
structure Grant where
  train : Nat
  sec : Nat
  tokens : Nat
  expiry : Nat
deriving DecidableEq, Repr

inductive IsoPhase where
  | clearing
  | opening (waiting : List Nat)
  | confirming (expiry : Nat)
deriving DecidableEq, Repr

/-- An isolation (R123). -/
structure Isolation where
  sec : Nat
  phase : IsoPhase
deriving DecidableEq, Repr

inductive PermitState where
  | requested | isolating | recording | issued | surrendering | ended
deriving DecidableEq, Repr

inductive PermitOutcome where
  | surrendered
  | cancelled
  | failedBreaker (breaker : Nat) (outcome : CmdOutcome)
  | reportedClosed (breaker : Nat)
  | failedVoltage (voltage : Voltage)
  | failedStore
deriving DecidableEq, Repr

inductive StoreMark where
  | absent | writing | present | erasing
deriving DecidableEq, Repr

/-- A permit (R121). The failure detail stands with the outcome it belongs to: `reportedClosed` is FAILED_BREAKER with detail
REPORTED_CLOSED. -/
structure Permit where
  place : Nat
  id : Nat
  sec : Nat
  holder : Nat
  state : PermitState
  outcome : Option PermitOutcome
  store : StoreMark
  eraseFailed : Bool
  requested : Nat
  issued : Option Nat
  ended : Option Nat
deriving DecidableEq, Repr

/-- A command end not yet handed to its origin inside the running step (R103); `waiting` are the sections whose isolations waited on the
breaker when the command ended (R124). -/
structure Report where
  breaker : Nat
  action : Action
  origin : CmdOrigin
  outcome : CmdOutcome
  waiting : List Nat
deriving DecidableEq, Repr

structure Tpc where
  sections : List SecRec
  breakers : List BrkRec
  queue : List Cmd
  nextCode : Nat
  grants : List Grant
  isolations : List Isolation
  permits : List Permit
  permitLast : Nat
  reports : List Report
deriving DecidableEq, Repr

/-! ### Incident manager (R133, R134, R139) -/

inductive Phase where
  | raised | acknowledged | contained | closed
deriving DecidableEq, Repr

inductive RaiseOrigin where
  | pattern (n : Nat)
  | unit (address : Nat)
  | tracker
  | power
  | link
  | operator
deriving DecidableEq, Repr

inductive IncLink where
  | holdPlatform (p : Nat)
  | holdTrain (t : Nat)
  | deenergise (sec : Nat)
  | announce (entry : Nat)
  | escalate
deriving DecidableEq, Repr

inductive CloseCause where
  | operator | automatic
deriving DecidableEq, Repr

/-- An incident record (R133). -/
structure Incident where
  id : Nat
  cls : IncClass
  severity : Nat
  location : Location
  phase : Phase
  origin : RaiseOrigin
  count : Nat
  links : List IncLink
  unlinked : Nat
  note : Option Nat
  escalation : Option Nat
  raisedAt : Nat
  lastAt : Nat
  ackAt : Option Nat
  containedAt : Option Nat
  closedAt : Option Nat
  cause : Option CloseCause
deriving DecidableEq, Repr

/-- The class, location and line time of the last raise dropped (R133, R137). -/
structure Dropped where
  cls : IncClass
  location : Location
  time : Nat
deriving DecidableEq, Repr

/-- The escalation period of each class (R134). -/
structure Periods where
  trainStopped : Nat
  powerTrip : Nat
  powerDiscrepancy : Nat
  passengerAlarm : Nat
  platformFault : Nat
  obstruction : Nat
  fieldSilence : Nat
  trackDiscrepancy : Nat
  operator : Nat
deriving DecidableEq, Repr

structure Inm where
  incidents : List Incident
  lastId : Nat
  drops : Nat
  lastDrop : Option Dropped
  periods : Periods
  responses : List ResponsePlace
deriving DecidableEq, Repr

/-! ### Announcement scheduler (R151, R153, R157, R164) -/

inductive EntryOrigin where
  | incident (id : Nat)
  | train (number : Nat)
  | arrival (train platform : Nat)
  | operator
  | none
deriving DecidableEq, Repr

/-- Why an entry is removed (R156). -/
inductive RemovalCause where
  | completed | withdrawn | expired | evicted
deriving DecidableEq, Repr

inductive DeliveryState where
  | pending | playing | stopping | done | skipped
deriving DecidableEq, Repr

/-- A delivery record (R153); `awaiting` says that its next eligible time has still to be reached as an event (R157). -/
structure Delivery where
  station : Nat
  state : DeliveryState
  plays : Repeat
  eligible : Nat
  awaiting : Bool
deriving DecidableEq, Repr

/-- An announcement entry (R153); `withdrawing` is absent while ACTIVE, and otherwise the cause its removal will give. -/
structure Entry where
  id : Nat
  template : Nat
  station : Option Nat
  minutes : Option Nat
  platform : Option Nat
  train : Option Nat
  priority : Priority
  origin : EntryOrigin
  rep : Repeat
  interval : Option Nat
  expiry : Option Nat
  display : Bool
  withdrawing : Option RemovalCause
  deliveries : List Delivery
deriving DecidableEq, Repr

/-- The state of a zone with what it holds in that state (R157); `sent` is the PLAY frame's progress. -/
inductive ZoneState where
  | idle
  | playing (entry : Nat) (override sent : Bool) (limit : Nat)
  | stopping (entry : Nat) (sent : Bool) (next : Option Nat) (limit : Nat)
  | local_
  | unreachable
deriving DecidableEq, Repr

/-- A zone (R157); `mic` is the microphone, true for TAKEN. -/
structure Zone where
  station : Nat
  state : ZoneState
  mic : Option Bool
deriving DecidableEq, Repr

/-- The display state of a platform (R164). -/
structure Display where
  platform : Nat
  last : Option Shown
  refresh : Option Nat
deriving DecidableEq, Repr

structure Ans where
  entries : List Entry
  lastId : Nat
  zones : List Zone
  displays : List Display
  templates : List TemplatePlace
deriving DecidableEq, Repr

/-! ### The whole part -/

/-- The state of the part, and the queue of commands that wait, first in, first out. -/
structure State where
  lmc : Lmc
  lst : Lst
  clp : Clp
  wlc : Wlc
  trk : Trk
  srg : Srg
  tpc : Tpc
  inm : Inm
  ans : Ans
  pending : List Instr
deriving DecidableEq, Repr

/-! ### After reset -/

/-- A slot whose region has never been written (R65). -/
def Slot.empty : Slot :=
  { state := .empty, name := 0, tripCount := 0, pointCount := 0, check := 0, content := [], pages := 0, pagesDone := 0 }

/-- A line store that has never been written (R1, R63, R65, R139, R151). -/
def Lst.blank : Lst :=
  { lineRegion := .neverWritten, slots := [Slot.empty, Slot.empty, Slot.empty, Slot.empty], buffer := [],
    templates := [], responses := [], permits := [], storedActive := none, storedScheduled := none,
    indicesDamaged := false, active := none, scheduled := none, indexDue := false, permitList := [],
    otherList := [], inFlight := none }

/-- Every outstanding flag clear (R183). -/
def NoticeFlags.clear : NoticeFlags :=
  { mode := false, train := false, trip := false, section_ := false, permit := false, incident := false,
    announce := false, unit := false, store := false, pattern := false }

/-- The escalation periods at POWER_ON (R134). -/
def Periods.powerOn : Periods :=
  { trainStopped := 120, powerTrip := 60, powerDiscrepancy := 120, passengerAlarm := 60, platformFault := 180,
    obstruction := 60, fieldSilence := 300, trackDiscrepancy := 180, operator := 600 }

/-- The regulation parameter sets at POWER_ON (R87). -/
def Regulation.peakPowerOn : Regulation := { method := .schedule, headway := 90, tolerance := 10, window := 25 }
def Regulation.offPeakPowerOn : Regulation := { method := .schedule, headway := 300, tolerance := 20, window := 25 }

/-- The MODE notice that is the first line after POWER_ON: the mode, the latch status, the readiness and the start record
(R172, R183). -/
def powerOnNotice : OutLine :=
  .notice .mode
    [⟨"mode", .one (.word "SURVEY")⟩, ⟨"latch_status", .one (.word "CLEAR")⟩, ⟨"survey_readiness", .one (.word "NOT_READY")⟩,
     ⟨"cause", .one (.word "POWER_ON")⟩, ⟨"running_count", .one (.num 0)⟩, ⟨"line_time", .one (.num 0)⟩,
     ⟨"time-set_flag", .one (.word "NO")⟩, ⟨"restarts", .one (.num 0)⟩]

/-- The part right after POWER_ON with a line store that has never been written (R172; log 6). -/
def State.reset : State :=
  { lmc :=
      { count := 0, lineTime := 0, timeSet := false, boundaryDue := false, session := .closed,
        staged := Description.empty, working := Description.empty, mode := .survey, escalation := false,
        heldCount := 0,
        lastChange := { old := none, new := .survey, cause := .start, time := 0, incident := none },
        readiness := some .notReady,
        startRecord := { cause := .powerOn, count := 0, lineTime := 0, timeSet := false, restarts := 0 } }
    lst := Lst.blank
    clp := { inbound := [], flags := { NoticeFlags.clear with mode := true }, restartDue := false,
             sent := [powerOnNotice] }
    wlc :=
      { line := .free, drivesMark := false,
        outQueue := [{ dest := 1023, body := .revokeAll, sequence := 0, tries := 0, onLine := false,
                       withdrawing := false, removing := false }],
        seqCounter := 1, inBuffer := [], registry := [], patterns := List.replicate 16 Pattern.empty,
        armed := false, revokeAllPosts := 0 }
    trk := { segs := [], trains := [], stallLimit := 120 }
    srg := { trips := [], plats := [], peak := Regulation.peakPowerOn, offPeak := Regulation.offPeakPowerOn,
             onThreshold := 180, offThreshold := 60, learned := [], authorityLast := 0 }
    tpc := { sections := [], breakers := [], queue := [], nextCode := 0, grants := [], isolations := [],
             permits := [], permitLast := 0, reports := [] }
    inm := { incidents := [], lastId := 0, drops := 0, lastDrop := none, periods := Periods.powerOn,
             responses := [] }
    ans := { entries := [], lastId := 0, zones := [], displays := [], templates := [] }
    pending := [] }

end Sys2Proof.Machine
end

