-- ==== Sys2Proof/Machine/Ops.lean ====
section
/-!
DEFINITION. The named operations that every block uses: ordered lists, the traffic day, the relations of the line description
(R2 to R9), and the one way each table of the state is read and updated.
-/

namespace Sys2Proof.Machine

/-! ### Lists in order -/

/-- Change the members of a list that a test picks. -/
def modify (p : α → Bool) (f : α → α) (l : List α) : List α := l.map fun x => if p x then f x else x

/-- Put a record into a list in ascending key, in place of one with the same key. -/
def insertBy (key : α → Nat) (x : α) : List α → List α
  | [] => [x]
  | y :: ys =>
    if key x < key y then x :: y :: ys
    else if key x = key y then x :: ys
    else y :: insertBy key x ys

/-- The members of a list in ascending order, each once. -/
def ascending (l : List Nat) : List Nat := l.foldl (fun acc n => insertBy id n acc) []

/-- Put a record into a list ordered by a test "comes before", behind those that it does not come before. -/
def insertAfter (before : α → α → Bool) (x : α) : List α → List α
  | [] => [x]
  | y :: ys => if before x y then x :: y :: ys else y :: insertAfter before x ys

/-- A list in the order of a test "comes before"; members of which neither comes before the other keep their order. -/
def orderBy (before : α → α → Bool) (l : List α) : List α := l.foldl (fun acc x => insertAfter before x acc) []

/-- The member with the least key, the first of those that have it. -/
def leastBy (key : α → Nat) : List α → Option α
  | [] => none
  | x :: xs =>
    match leastBy key xs with
    | none => some x
    | some y => if key y < key x then some y else some x

/-- Do something for each member of a list, in order. -/
def forEach (l : List α) (f : α → σ → σ) (s : σ) : σ := l.foldl (fun acc x => f x acc) s

/-- Make a move for as long as there is one; the number bounds the moves. -/
def repeatWhile (move? : σ → Option σ) : Nat → σ → σ
  | 0, s => s
  | fuel + 1, s =>
    match move? s with
    | some t => repeatWhile move? fuel t
    | none => s

/-- Add one to a count that saturates. -/
def saturate (top n : Nat) : Nat := if n < top then n + 1 else top

/-- The next identifier of a cyclic counter, 1 to `top`, that is not in use (R88, R121, R133, R153). `fuel` bounds the search:
it is one more than the number of identifiers in use. -/
def nextFree (top : Nat) (used : List Nat) : Nat → Nat → Nat
  | 0, last => if last < top then last + 1 else 1
  | fuel + 1, last =>
    let n := if last < top then last + 1 else 1
    if used.contains n then nextFree top used fuel n else n

/-- The next free identifier after the last one given. -/
def nextId (top : Nat) (used : List Nat) (last : Nat) : Nat := nextFree top used used.length last

/-! ### The traffic day (R17) -/

/-- The traffic-day offset of a time of day for a boundary (R17). -/
def dayOffset (boundary t : Nat) : Nat := if boundary ≤ t then t - boundary else t + daySeconds - boundary

/-! ### Relations of the line description (R2 to R9) -/

def Description.station? (d : Description) (i : Nat) : Option Station := d.stations.find? (·.index == i)
def Description.segment? (d : Description) (i : Nat) : Option Segment := d.segments.find? (·.index == i)
def Description.section? (d : Description) (x : Nat) : Option SectionDesc := d.sections.find? (·.index == x)
def Description.breaker? (d : Description) (b : Nat) : Option BreakerDesc := d.breakers.find? (·.index == b)
def Description.unit? (d : Description) (a : Nat) : Option UnitDesc := d.units.find? (·.address == a)

/-- The platform segment of a platform (R3). -/
def Description.platformSegment? (d : Description) (p : Nat) : Option Segment :=
  d.segments.find? (·.platform == some p)

/-- A platform exists when a segment names it (R3). -/
def Description.platformExists (d : Description) (p : Nat) : Bool := (d.platformSegment? p).isSome

/-- The existing platforms, ascending (R3). -/
def Description.platforms (d : Description) : List Nat := ascending (d.segments.filterMap (·.platform))

/-- The next segment of a platform: the successor of its platform segment (R3). -/
def Description.nextSegment? (d : Description) (p : Nat) : Option Nat :=
  (d.platformSegment? p).bind (·.successor)

/-- The section of a segment. -/
def Description.sectionOf? (d : Description) (seg : Nat) : Option Nat := (d.segment? seg).map (·.sec)

/-- The platform of a segment, if it is a platform segment. -/
def Description.platformOf? (d : Description) (seg : Nat) : Option Nat := (d.segment? seg).bind (·.platform)

/-- Segment t follows segment s (R5). -/
def Description.follows (d : Description) (t s : Nat) : Bool :=
  match d.segment? s with
  | some g => g.successor == some t || g.alternate == some t
  | none => false

/-- The predecessor of a segment (R5). -/
def Description.predecessor? (d : Description) (s : Nat) : Option Nat :=
  match d.segment? s with
  | some g => (d.segments.find? fun h => h.successor == some s && h.track == g.track).map (·.index)
  | none => none

/-- The station of a platform index (R3). -/
def platformStation (p : Nat) : Nat := p / 2

/-- The direction part of a platform index (R3). -/
def dirOffset : Dir → Nat
  | .up => 0
  | .down => 1

/-- The platform of a timing point on a trip of a direction (R65). -/
def pointPlatform (dir : Dir) (pt : TimingPoint) : Nat := 2 * pt.station + dirOffset dir

/-- The existing platforms of a station, ascending. -/
def Description.stationPlatforms (d : Description) (st : Nat) : List Nat :=
  [2 * st, 2 * st + 1].filter d.platformExists

/-- The feeders of a section in ascending breaker index (R6). -/
def Description.feedersOf (d : Description) (x : Nat) : List Nat :=
  match d.section? x with
  | some sc => ascending sc.feeders
  | none => []

/-- The ties of a section: the TIE breakers whose sections include it (R6). -/
def Description.tiesOf (d : Description) (x : Nat) : List Nat :=
  (d.breakers.filter fun b => b.kind == .tie && b.sections.contains x).map (·.index)

/-- The feeders and ties of a section in ascending breaker index. -/
def Description.breakersOf (d : Description) (x : Nat) : List Nat := ascending (d.feedersOf x ++ d.tiesOf x)

/-- The breakers that feed a section, ascending (R103). -/
def Description.breakersFeeding (d : Description) (x : Nat) : List Nat :=
  (d.breakers.filter fun b => b.sections.contains x).map (·.index)

/-- The sections fed by a breaker (R8, R103). -/
def Description.sectionsFed (d : Description) (b : Nat) : List Nat :=
  match d.breaker? b with
  | some bd => bd.sections
  | none => []

/-- The section of a feeder. -/
def Description.feederSection? (d : Description) (b : Nat) : Option Nat :=
  match d.breaker? b with
  | some bd => if bd.kind == .feeder then bd.sections.head? else none
  | none => none

/-- The breakers a power unit commands, ascending (R9). -/
def Description.unitBreakers (d : Description) (a : Nat) : List Nat :=
  (d.breakers.filter (·.unit == a)).map (·.index)

/-- The sections fed by a power unit's breakers, ascending. -/
def Description.unitSections (d : Description) (a : Nat) : List Nat :=
  ascending ((d.unitBreakers a).flatMap d.sectionsFed)

/-- The breaker of a number within a unit (R8). -/
def Description.breakerOfNumber? (d : Description) (a n : Nat) : Option BreakerDesc :=
  d.breakers.find? fun b => b.unit == a && b.number == n

/-- The segments a track unit covers, ascending (R9). -/
def Description.unitSegments (d : Description) (a : Nat) : List Nat :=
  (d.segments.filter (·.unit == a)).map (·.index)

/-- The station a station unit speaks for (R9). -/
def Description.unitStation? (d : Description) (a : Nat) : Option Nat :=
  (d.stations.find? (·.unit == a)).map (·.index)

/-- The segments of a section, ascending. -/
def Description.segmentsIn (d : Description) (x : Nat) : List Nat :=
  (d.segments.filter (·.sec == x)).map (·.index)

/-- The existing platforms whose next segment lies in a section, ascending (R102, R141). -/
def Description.platformsInto (d : Description) (x : Nat) : List Nat :=
  d.platforms.filter fun p => ((d.nextSegment? p).bind d.sectionOf?) == some x

/-- The unit that commands a breaker; 0 when the breaker has no record. -/
def Description.breakerUnit (d : Description) (b : Nat) : Nat :=
  match d.breaker? b with
  | some bd => bd.unit
  | none => 0

/-! ### Reading the state -/

/-- The running count of seconds (R16). -/
abbrev State.now (s : State) : Nat := s.lmc.count

/-- The seconds from now to a mark, negative for one that has passed (R79, R82, R165, R179). -/
def secondsTo (s : State) (mark : Nat) : Int := (mark : Int) - (s.now : Int)

/-- The working description (R1). -/
abbrev State.desc (s : State) : Description := s.lmc.working

/-- The traffic-day boundary in force (R17). -/
abbrev State.boundary (s : State) : Nat := s.lmc.working.params.boundary

/-- The offset of a time of day under the boundary in force (R17). -/
def State.offset (s : State) (t : Nat) : Nat := dayOffset s.boundary t

/-- The offset of the present line time. -/
def State.nowOffset (s : State) : Nat := s.offset s.lmc.lineTime

def State.train? (s : State) (n : Nat) : Option Train := s.trk.trains.find? (·.number == n)
def State.seg? (s : State) (i : Nat) : Option SegRec := s.trk.segs.find? (·.index == i)
def State.sec? (s : State) (x : Nat) : Option SecRec := s.tpc.sections.find? (·.index == x)
def State.brk? (s : State) (b : Nat) : Option BrkRec := s.tpc.breakers.find? (·.index == b)
def State.unitRec? (s : State) (a : Nat) : Option UnitRec := s.wlc.registry.find? (·.address == a)
def State.plat? (s : State) (p : Nat) : Option PlatRec := s.srg.plats.find? (·.index == p)
def State.tripState? (s : State) (n : Nat) : Option TripState := s.srg.trips.find? (·.number == n)
def State.slot? (s : State) (i : Nat) : Option Slot := s.lst.slots[i]?
def State.grant? (s : State) (n : Nat) : Option Grant := s.tpc.grants.find? (·.train == n)
def State.isolation? (s : State) (x : Nat) : Option Isolation := s.tpc.isolations.find? (·.sec == x)
def State.permit? (s : State) (id : Nat) : Option Permit := s.tpc.permits.find? (·.id == id)
def State.incident? (s : State) (id : Nat) : Option Incident := s.inm.incidents.find? (·.id == id)
def State.entry? (s : State) (id : Nat) : Option Entry := s.ans.entries.find? (·.id == id)
def State.zone? (s : State) (st : Nat) : Option Zone := s.ans.zones.find? (·.station == st)
def State.display? (s : State) (p : Nat) : Option Display := s.ans.displays.find? (·.platform == p)
def State.command? (s : State) (b : Nat) : Option Cmd := s.tpc.queue.find? (·.breaker == b)

/-- The occupancy of a segment; a segment without a record is UNKNOWN to the part. -/
def State.occ (s : State) (i : Nat) : Occupancy :=
  match s.seg? i with
  | some g => g.occ
  | none => .unknown

/-- The state of a station's zone, if it has one. -/
def State.zoneState? (s : State) (st : Nat) : Option ZoneState := (s.zone? st).map (·.state)

/-- The state of a section, if it has a record. -/
def State.secState? (s : State) (x : Nat) : Option SectionState := (s.sec? x).map (·.state)

/-- A section is in a given state. -/
def State.secIs (s : State) (x : Nat) (st : SectionState) : Bool := s.secState? x == some st

/-- The state of a breaker, if it has a record. -/
def State.brkState? (s : State) (b : Nat) : Option BreakerState := (s.brk? b).map (·.state)

/-- A breaker is OPEN. -/
def State.brkOpen (s : State) (b : Nat) : Bool := s.brkState? b == some .opened

/-- A breaker is MOVING. -/
def BreakerState.isMoving : BreakerState → Bool
  | .moving .. => true
  | _ => false

def State.brkMoving (s : State) (b : Nat) : Bool :=
  match s.brkState? b with
  | some st => st.isMoving
  | none => false

/-- A permit is open while it is not ENDED (R121). -/
def Permit.isOpen (p : Permit) : Bool := p.state != .ended

/-- The open permits of a section, in ascending place. -/
def State.openPermits (s : State) (x : Nat) : List Permit := s.tpc.permits.filter fun p => p.sec == x && p.isOpen

/-- Some permit on the section is in a state other than ENDED. -/
def State.permitOpen (s : State) (x : Nat) : Bool := !(s.openPermits x).isEmpty

/-- The tokens in use in a section (R110). -/
def State.tokensUsed (s : State) (x : Nat) : Nat :=
  ((s.tpc.grants.filter (·.sec == x)).map (·.tokens)).sum

/-- The number of HELD sections (R102). -/
def State.heldSections (s : State) : Nat := (s.tpc.sections.filter (·.state == .held)).length

/-- The line carries passengers: TRAFFIC or REDUCED. -/
def isPassenger : Mode → Bool
  | .traffic => true
  | .reduced => true
  | _ => false

/-- The NIGHT modes (00_scope.md). -/
def isNight : Mode → Bool
  | .nightLive => true
  | .nightHeld => true
  | _ => false

/-- The description status of R1 as the region holds it. -/
def State.descriptionValid (s : State) : Bool :=
  match s.lst.lineRegion with
  | .whole _ => true
  | _ => false

/-- The trips of the active slot (R75). -/
def State.activeTrips (s : State) : List TripRecord :=
  match s.lst.active with
  | some i => ((s.slot? i).map (·.content)).getD []
  | none => []

/-- The timing points of a trip of the active slot, with its direction (R75). -/
def State.tripRecord? (s : State) (n : Nat) : Option TripRecord := s.activeTrips.find? (·.number == n)

/-! ### Updating one record of a table -/

def State.modTrain (n : Nat) (f : Train → Train) (s : State) : State :=
  { s with trk.trains := modify (·.number == n) f s.trk.trains }
def State.modSec (x : Nat) (f : SecRec → SecRec) (s : State) : State :=
  { s with tpc.sections := modify (·.index == x) f s.tpc.sections }
def State.modBrk (b : Nat) (f : BrkRec → BrkRec) (s : State) : State :=
  { s with tpc.breakers := modify (·.index == b) f s.tpc.breakers }
def State.modUnit (a : Nat) (f : UnitRec → UnitRec) (s : State) : State :=
  { s with wlc.registry := modify (·.address == a) f s.wlc.registry }
def State.modPlat (p : Nat) (f : PlatRec → PlatRec) (s : State) : State :=
  { s with srg.plats := modify (·.index == p) f s.srg.plats }
def State.modTrip (n : Nat) (f : TripState → TripState) (s : State) : State :=
  { s with srg.trips := modify (·.number == n) f s.srg.trips }
def State.modSlot (i : Nat) (f : Slot → Slot) (s : State) : State :=
  { s with lst.slots := s.lst.slots.modify i f }
def State.modPermit (id : Nat) (f : Permit → Permit) (s : State) : State :=
  { s with tpc.permits := modify (·.id == id) f s.tpc.permits }
def State.modIncident (id : Nat) (f : Incident → Incident) (s : State) : State :=
  { s with inm.incidents := modify (·.id == id) f s.inm.incidents }
def State.modEntry (id : Nat) (f : Entry → Entry) (s : State) : State :=
  { s with ans.entries := modify (·.id == id) f s.ans.entries }
def State.modZone (st : Nat) (f : Zone → Zone) (s : State) : State :=
  { s with ans.zones := modify (·.station == st) f s.ans.zones }
def State.modDisplay (p : Nat) (f : Display → Display) (s : State) : State :=
  { s with ans.displays := modify (·.platform == p) f s.ans.displays }
def State.modIsolation (x : Nat) (f : Isolation → Isolation) (s : State) : State :=
  { s with tpc.isolations := modify (·.sec == x) f s.tpc.isolations }

/-- Change a train's call. -/
def State.modCall (n : Nat) (f : Call → Call) (s : State) : State :=
  s.modTrain n fun t => { t with call := t.call.map f }

/-- Change a train's authority. -/
def State.modAuthority (n : Nat) (f : Authority → Authority) (s : State) : State :=
  s.modTrain n fun t => { t with authority := t.authority.map f }

/-- Change the delivery of an entry at a station. -/
def State.modDelivery (id st : Nat) (f : Delivery → Delivery) (s : State) : State :=
  s.modEntry id fun e => { e with deliveries := modify (·.station == st) f e.deliveries }

/-- Make an occupancy the occupancy of a segment; a change sets its time of last change (R41). -/
def State.setOcc (i : Nat) (o : Occupancy) (s : State) : State :=
  let change : SegRec → SegRec := fun g => { g with occ := o, changed := some s.lmc.lineTime }
  { s with trk.segs := modify (fun g => g.index == i && g.occ != o) change s.trk.segs }

end Sys2Proof.Machine
end

