-- ==== Sys2Proof/Machine/Words.lean ====
section
/-!
DEFINITION. The words of the manual for the values that stand in replies and notices (R179), and the value forms of a field.
-/

namespace Sys2Proof.Machine

def yesNoWord : Bool → String
  | true => "YES"
  | false => "NO"

def modeWord : Mode → String
  | .survey => "SURVEY"
  | .traffic => "TRAFFIC"
  | .reduced => "REDUCED"
  | .nightLive => "NIGHT_LIVE"
  | .nightHeld => "NIGHT_HELD"

def modeCauseWord : ModeCause → String
  | .start => "START"
  | .request => "REQUEST"
  | .surveyEnd => "SURVEY_END"
  | .escalate => "ESCALATE"

def readinessWord : Readiness → String
  | .notReady => "NOT_READY"
  | .nightReady => "NIGHT_READY"
  | .dayReady => "DAY_READY"

def startCauseWord : StartCause → String
  | .powerOn => "POWER_ON"
  | .restart => "RESTART"

def sessionWord : Session → String
  | .closed => "CLOSED"
  | .opened => "OPEN"
  | .committing => "COMMITTING"

def regionWord : LineRegion → String
  | .neverWritten => "ABSENT"
  | .whole _ => "VALID"
  | .damaged => "DAMAGED"

def recKindWord : RecKind → String
  | .station => "STATION"
  | .segment => "SEGMENT"
  | .powerSection => "SECTION"
  | .substation => "SUBSTATION"
  | .breaker => "BREAKER"
  | .unit => "UNIT"
  | .params => "PARAMS"

def slotStateWord : SlotState → String
  | .empty => "EMPTY"
  | .writing => "WRITING"
  | .committing => "COMMITTING"
  | .valid => "VALID"
  | .damaged => "DAMAGED"

def dirWord : Dir → String
  | .up => "UP"
  | .down => "DOWN"

def unitKindWord : UnitKind → String
  | .track => "TRACK"
  | .power => "POWER"
  | .station => "STATION"

def unitStateWord : UnitState → String
  | .unheard => "UNHEARD"
  | .live => "LIVE"
  | .stale => "STALE"

def armedWord : Bool → String
  | true => "ARMED"
  | false => "UNARMED"

def inKindWord : InKind → String
  | .trackEvent => "TRACK_EVENT"
  | .trackStatus => "TRACK_STATUS"
  | .powerStatus => "POWER_STATUS"
  | .selectEcho => "SELECT_ECHO"
  | .revokeEcho => "REVOKE_ECHO"
  | .stationStatus => "STATION_STATUS"
  | .playEnd => "PLAY_END"
  | .alarm => "ALARM"

def trainStateWord : TrainState → String
  | .inService => "IN_SERVICE"
  | .positioning => "POSITIONING"
  | .stabled => "STABLED"
  | .lost => "LOST"

def authStateWord : AuthState → String
  | .issued => "ISSUED"
  | .revoking => "REVOKING"
  | .unconfirmed => "UNCONFIRMED"

def callPhaseWord : CallPhase → String
  | .dwelling => "DWELLING"
  | .waiting => "WAITING"
  | .authorised => "AUTHORISED"
  | .departing => "DEPARTING"

def tripStatusWord : TripStatus → String
  | .pending => "PENDING"
  | .running => "RUNNING"
  | .done => "DONE"
  | .lapsed => "LAPSED"
  | .cancelled => "CANCELLED"

def cancelCauseWord : CancelCause → String
  | .operator => "OPERATOR"
  | .line => "LINE"

def methodWord : Method → String
  | .schedule => "SCHEDULE"
  | .headway => "HEADWAY"

def filterWord : Filter → String
  | .k8 => "8"
  | .k16 => "16"
  | .k32 => "32"
  | .adapt => "ADAPT"

def sectionStateWord : SectionState → String
  | .energised => "ENERGISED"
  | .energising => "ENERGISING"
  | .dead => "DEAD"
  | .isolating => "ISOLATING"
  | .isolated => "ISOLATED"
  | .tripped => "TRIPPED"
  | .held => "HELD"
  | .unknown => "UNKNOWN"

def voltageWord : Voltage → String
  | .present => "PRESENT"
  | .absent => "ABSENT"
  | .unknown => "UNKNOWN"

def outcomeWord : CmdOutcome → String
  | .done => "DONE"
  | .echoMismatch => "ECHO_MISMATCH"
  | .lapsed => "LAPSED"
  | .failedDelivery => "FAILED_DELIVERY"
  | .noResult => "NO_RESULT"
  | .cancelled => "CANCELLED"

def seqOriginWord : SeqOrigin → String
  | .operator => "OPERATOR"
  | .all => "ALL"
  | .reclose => "RECLOSE"

def cmdOriginWord : CmdOrigin → String
  | .sequence => "SEQUENCE"
  | .isolation => "ISOLATION"
  | .deenergise => "DEENERGISE"
  | .nightHold => "NIGHT_HOLD"
  | .correction => "CORRECTION"
  | .operator => "OPERATOR"

def cmdPhaseWord : CmdPhase → String
  | .queued => "QUEUED"
  | .selecting => "SELECTING"
  | .selected => "SELECTED"

def breakerStateWord : BreakerState → String
  | .opened => "OPEN"
  | .closed => "CLOSED"
  | .moving .. => "MOVING"
  | .unknown => "UNKNOWN"

def positionWord : Position → String
  | .opened => "OPEN"
  | .closed => "CLOSED"

def permitStateWord : PermitState → String
  | .requested => "REQUESTED"
  | .isolating => "ISOLATING"
  | .recording => "RECORDING"
  | .issued => "ISSUED"
  | .surrendering => "SURRENDERING"
  | .ended => "ENDED"

def storeMarkWord : StoreMark → String
  | .absent => "ABSENT"
  | .writing => "WRITING"
  | .present => "PRESENT"
  | .erasing => "ERASING"

def classWord : IncClass → String
  | .trainStopped => "TRAIN_STOPPED"
  | .powerTrip => "POWER_TRIP"
  | .powerDiscrepancy => "POWER_DISCREPANCY"
  | .passengerAlarm => "PASSENGER_ALARM"
  | .platformFault => "PLATFORM_FAULT"
  | .obstruction => "OBSTRUCTION"
  | .fieldSilence => "FIELD_SILENCE"
  | .trackDiscrepancy => "TRACK_DISCREPANCY"
  | .operator => "OPERATOR"

def phaseWord : Phase → String
  | .raised => "RAISED"
  | .acknowledged => "ACKNOWLEDGED"
  | .contained => "CONTAINED"
  | .closed => "CLOSED"

def closeCauseWord : CloseCause → String
  | .operator => "OPERATOR"
  | .automatic => "AUTOMATIC"

def priorityWord : Priority → String
  | .emergency => "EMERGENCY"
  | .safety => "SAFETY"
  | .service => "SERVICE"
  | .information => "INFORMATION"

def scopeRuleWord : ScopeRule → String
  | .location => "LOCATION"
  | .line => "LINE"

def removalWord : RemovalCause → String
  | .completed => "COMPLETED"
  | .withdrawn => "WITHDRAWN"
  | .expired => "EXPIRED"
  | .evicted => "EVICTED"

def deliveryStateWord : DeliveryState → String
  | .pending => "PENDING"
  | .playing => "PLAYING"
  | .stopping => "STOPPING"
  | .done => "DONE"
  | .skipped => "SKIPPED"

def zoneStateWord : ZoneState → String
  | .idle => "IDLE"
  | .playing .. => "PLAYING"
  | .stopping .. => "STOPPING"
  | .local_ => "LOCAL"
  | .unreachable => "UNREACHABLE"

def micWord : Bool → String
  | true => "TAKEN"
  | false => "FREE"

def slotKindWord : SlotKind → String
  | .station => "STATION"
  | .minutes => "MINUTES"
  | .platform => "PLATFORM"
  | .train => "TRAIN"

def storeOutcomeWord : StoreOutcome → String
  | .done => "DONE"
  | .failed => "FAILED"

def reasonWord : Reason → String
  | .mode => "MODE"
  | .busy => "BUSY"
  | .unknownRequest => "UNKNOWN_REQUEST"
  | .badField => "BAD_FIELD"
  | .notFound => "NOT_FOUND"
  | .state => "STATE"
  | .full => "FULL"
  | .permitOpen => "PERMIT_OPEN"
  | .held => "HELD"
  | .trainsPresent => "TRAINS_PRESENT"
  | .trainsOut => "TRAINS_OUT"
  | .holder => "HOLDER"
  | .storeBusy => "STORE_BUSY"
  | .check => "CHECK"
  | .tooLong => "TOO_LONG"
  | .linkBusy => "LINK_BUSY"

def noticeWord : NoticeKind → String
  | .mode => "MODE"
  | .train => "TRAIN"
  | .trip => "TRIP"
  | .section_ => "SECTION"
  | .permit => "PERMIT"
  | .incident => "INCIDENT"
  | .announce => "ANNOUNCE"
  | .unit => "UNIT"
  | .store => "STORE"
  | .pattern => "PATTERN"

/-! ### Values of fields (R179) -/

def fld (name : String) (v : Value) : Field := ⟨name, v⟩
def vNum (n : Nat) : Value := .one (.num n)
def vInt (n : Int) : Value := .one (.num n)
def vWord (w : String) : Value := .one (.word w)
def vYes (b : Bool) : Value := .one (.word (yesNoWord b))
def vAbsent : Value := .one .absent
def vMaybe (o : Option Nat) : Value := (o.map vNum).getD vAbsent
def vMaybeInt (o : Option Int) : Value := (o.map vInt).getD vAbsent
def vMaybeWord (o : Option String) : Value := (o.map vWord).getD vAbsent
def vNums (l : List Nat) : Value := if l.isEmpty then vAbsent else .list (l.map fun (n : Nat) => .num (n : Int))
def vAtoms (l : List Atom) : Value := if l.isEmpty then vAbsent else .list l
/-- The seconds left to an expiry, or absent; negative for one that has passed and is still to be taken (R179; log 2). -/
def vLeft (now : Nat) (o : Option Nat) : Value := vMaybeInt (o.map fun e => (e : Int) - (now : Int))
/-- An index, or NONE. -/
def vNone (o : Option Nat) : Value := (o.map vNum).getD (vWord "NONE")

def locationAtom : Location → Atom
  | .segment i => .call "SEGMENT" [i]
  | .station i => .call "STATION" [i]
  | .powerSection i => .call "SECTION" [i]
  | .unit a => .call "UNIT" [a]
  | .line => .word "LINE"

def holdAtom : HoldReason → Atom
  | .operator => .word "OPERATOR"
  | .incident id => .call "INCIDENT" [id]
  | .power x => .call "POWER" [x]

def linkAtom : IncLink → Atom
  | .holdPlatform p => .call "HOLD_PLATFORM" [p]
  | .holdTrain t => .call "HOLD_TRAIN" [t]
  | .deenergise x => .call "DEENERGISE" [x]
  | .announce e => .call "ANNOUNCE" [e]
  | .escalate => .word "ESCALATE"

def raiseOriginAtom : RaiseOrigin → Atom
  | .pattern n => .call "PATTERN" [n]
  | .unit a => .call "UNIT" [a]
  | .tracker => .word "TRACKER"
  | .power => .word "POWER"
  | .link => .word "LINK"
  | .operator => .word "OPERATOR"

def entryOriginAtom : EntryOrigin → Atom
  | .incident id => .call "INCIDENT" [id]
  | .train n => .call "TRAIN" [n]
  | .arrival t p => .call "ARRIVAL" [t, p]
  | .operator => .word "OPERATOR"
  | .none => .word "NONE"

def elementAtom : Element → Atom
  | .phrase id => .call "PHRASE" [id]
  | .slot k => .text "SLOT" (slotKindWord k)

def vRepeat : Repeat → Value
  | .times n => vNum n
  | .continuous => vWord "CONTINUOUS"

def seqOutcomeValue : Option SeqOutcome → Value
  | none => vAbsent
  | some .done => vWord "DONE"
  | some .abandoned => vWord "ABANDONED"
  | some (.failedBreaker b o) => .list [.word "FAILED_BREAKER", .num b, .word (outcomeWord o)]
  | some .failedVoltage => vWord "FAILED_VOLTAGE"

def permitOutcomeWord : PermitOutcome → String
  | .surrendered => "SURRENDERED"
  | .cancelled => "CANCELLED"
  | .failedBreaker _ _ => "FAILED_BREAKER"
  | .reportedClosed _ => "FAILED_BREAKER"
  | .failedVoltage _ => "FAILED_VOLTAGE"
  | .failedStore => "FAILED_STORE"

def permitDetail : Option PermitOutcome → Value
  | some (.failedBreaker b o) => .list [.num b, .word (outcomeWord o)]
  | some (.reportedClosed b) => .list [.num b, .word "REPORTED_CLOSED"]
  | some (.failedVoltage v) => vWord (voltageWord v)
  | _ => vAbsent

/-! ### The text of a line the part sends (R179) -/

/-- The decimal digits of a number, by repeated division; `fuel` bounds the number of digits. -/
def digitsOf : Nat → Nat → Text
  | 0, _ => []
  | fuel + 1, n =>
    if n < 10 then [Char.ofNat (48 + n)] else digitsOf fuel (n / 10) ++ [Char.ofNat (48 + n % 10)]

def natText (n : Nat) : Text := digitsOf 20 n

def intText (n : Int) : Text := if n < 0 then '-' :: natText n.natAbs else natText n.natAbs

/-- A hexadecimal digit in upper case (R179). -/
def hexChar (n : Nat) : Char := if n < 10 then Char.ofNat (48 + n) else Char.ofNat (55 + n)

def hexText (n : Nat) : Text := [hexChar (n / 16 % 16), hexChar (n % 16)]

/-- Pieces of text with a separator between them. -/
def joinText (sep : Text) : List Text → Text
  | [] => []
  | [t] => t
  | t :: r => t ++ sep ++ joinText sep r

def atomText : Atom → Text
  | .num n => intText n
  | .word w => w.toList
  | .call w args => w.toList ++ ['('] ++ joinText [','] (args.map intText) ++ [')']
  | .text w a => w.toList ++ ['('] ++ a.toList ++ [')']
  | .absent => ['-']

def valueText : Value → Text
  | .one a => atomText a
  | .list l => joinText [','] (l.map atomText)
  | .octets l => joinText [','] (l.map fun o => hexText o.toNat)

def fieldText (f : Field) : Text := f.name.toList ++ ['='] ++ valueText f.value

/-- The parts of a line before its check: tag, word or words, fields (R179, R182, R183). -/
def OutLine.parts : OutLine → List Text
  | .ok tag fs => natText tag :: "OK".toList :: fs.map fieldText
  | .refused tag r fs => natText tag :: "REFUSED".toList :: (reasonWord r).toList :: fs.map fieldText
  | .block tag n => [natText tag, "OK".toList, natText n]
  | .record tag w fs => natText tag :: w.toList :: fs.map fieldText
  | .notice k fs => natText 0 :: "NOTICE".toList :: (noticeWord k).toList :: fs.map fieldText

/-- The characters of a line as the part sends it: its parts with single spaces, the check in upper case, a carriage return and a
line feed (R179). -/
def OutLine.text (l : OutLine) : Text :=
  let body := joinText [' '] l.parts ++ [' ']
  body ++ ['*'] ++ hexText ((body.map Char.toNat).sum % 256) ++ [Char.ofNat 13, Char.ofNat 10]

end Sys2Proof.Machine
end

