-- ==== Sys2Proof/Machine/Flags.lean ====
section
/-!
DEFINITION. The outstanding flags and the lines the part sends (R182, R183), the latch status (R166) and the survey readiness
(R175).
-/

namespace Sys2Proof.Machine

/-- The outstanding flag of a notice kind (R183). -/
def NoticeFlags.get (f : NoticeFlags) : NoticeKind → Bool
  | .mode => f.mode
  | .train => f.train
  | .trip => f.trip
  | .section_ => f.section_
  | .permit => f.permit
  | .incident => f.incident
  | .announce => f.announce
  | .unit => f.unit
  | .store => f.store
  | .pattern => f.pattern

/-- Set or clear the outstanding flag of a notice kind. -/
def NoticeFlags.put (f : NoticeFlags) (k : NoticeKind) (b : Bool) : NoticeFlags :=
  match k with
  | .mode => { f with mode := b }
  | .train => { f with train := b }
  | .trip => { f with trip := b }
  | .section_ => { f with section_ := b }
  | .permit => { f with permit := b }
  | .incident => { f with incident := b }
  | .announce => { f with announce := b }
  | .unit => { f with unit := b }
  | .store => { f with store := b }
  | .pattern => { f with pattern := b }

/-- Send one line (R182). -/
def State.send (l : OutLine) (s : State) : State := { s with clp.sent := s.clp.sent ++ [l] }

/-- Send lines in order, unbroken (R182). -/
def State.sendAll (ls : List OutLine) (s : State) : State := { s with clp.sent := s.clp.sent ++ ls }

/-- An event of a notice kind: one notice line if the kind's flag is clear, and the flag is set (R183). -/
def State.notice (k : NoticeKind) (summary : List Field) (s : State) : State :=
  if s.clp.flags.get k then s
  else { s with clp.sent := s.clp.sent ++ [.notice k summary], clp.flags := s.clp.flags.put k true }

/-- A query clears the flag of its notice kind before its reply is composed (R183). -/
def State.clearFlag (k : NoticeKind) (s : State) : State := { s with clp.flags := s.clp.flags.put k false }

/-! ### The latch status (R166) -/

/-- LATCHED while the held count is above 0 (R166). -/
def latched (held : Nat) : Bool := decide (0 < held)

def latchWord (held : Nat) : String := if latched held then "LATCHED" else "CLEAR"

/-- The summary of a MODE notice: mode, latch status, survey readiness (R183). -/
def State.modeSummary (s : State) : List Field :=
  [fld "mode" (vWord (modeWord s.lmc.mode)), fld "latch_status" (vWord (latchWord s.lmc.heldCount)),
   fld "survey_readiness" (vMaybeWord (s.lmc.readiness.map readinessWord))]

/-- A MODE notice. -/
def State.modeNotice (s : State) : State := s.notice .mode s.modeSummary

/-- The TPC reports the number of HELD sections; a change of latch status raises a MODE notice (R102, R166). -/
def State.reportHeld (s : State) : State :=
  let n := s.heldSections
  let t := { s with lmc.heldCount := n }
  if latched n == latched s.lmc.heldCount then t else t.modeNotice

/-! ### Survey readiness (R175) -/

/-- NIGHT_READY: the description status is VALID, the load session CLOSED, and no unit UNHEARD (R175). -/
def State.nightReady (s : State) : Bool :=
  s.descriptionValid && s.lmc.session == .closed && !(s.wlc.registry.any (·.state == .unheard))

/-- DAY_READY: besides, no section UNKNOWN, an active slot, and the time set (R175). -/
def State.dayReady (s : State) : Bool :=
  s.nightReady && !(s.tpc.sections.any (·.state == .unknown)) && s.lst.active.isSome && s.lmc.timeSet

/-- The survey readiness the conditions give; absent outside SURVEY (R175). -/
def State.readinessNow (s : State) : Option Readiness :=
  if s.lmc.mode == .survey then
    some (if s.dayReady then .dayReady else if s.nightReady then .nightReady else .notReady)
  else none

/-- Compute the survey readiness; a change of it raises a MODE notice (R175). Log 76 says where in a step. -/
def State.updateReadiness (s : State) : State :=
  let r := s.readinessNow
  if r == s.lmc.readiness then s else
    let t := { s with lmc.readiness := r }
    if r.isSome then t.modeNotice else t

end Sys2Proof.Machine
end

