-- ==== Sys2Proof/Machine/Operands.lean ====
section
/-!
DEFINITION. The fields of requests: their ranges, the refusals a failing check gives, and the taking of a request from the head of
the inbound queue with its one reply (R181, R182).
-/

namespace Sys2Proof.Machine

/-- A refusal: its reason and what the refusing check names (R182). -/
structure Refused where
  reason : Reason
  details : List Field
deriving DecidableEq, Repr

/-- The answer of a check, or of a whole request. -/
abbrev Checked (α : Type) := Except Refused α

def refuse (r : Reason) : Refused := ⟨r, []⟩
def refuseField (r : Reason) (name : String) : Refused := ⟨r, [fld "field" (vWord name)]⟩
def badField (name : String) : Refused := refuseField .badField name

/-- A check: the condition holds, or the request is refused. -/
def require (b : Bool) (r : Refused) : Checked Unit := if b then .ok () else .error r

/-- A field that must be present. -/
def need (o : Option α) (r : Refused) : Checked α :=
  match o with
  | some a => .ok a
  | none => .error r

/-- A number that must be present and lie in a range. -/
def needIn (name : String) (lo hi : Nat) (o : Option Nat) : Checked Nat :=
  match o with
  | some n => if lo ≤ n ∧ n ≤ hi then .ok n else .error (badField name)
  | none => .error (badField name)

/-- A number that may be absent and otherwise lies in a range. -/
def maybeIn (name : String) (lo hi : Nat) (o : Option Nat) : Checked (Option Nat) :=
  match o with
  | some n => if lo ≤ n ∧ n ≤ hi then .ok (some n) else .error (badField name)
  | none => .ok none

/-- A field of a set of words or another closed form, which must be present. -/
def needField (name : String) (o : Option α) : Checked α := need o (badField name)

/-- The filter that a filter field names: 8, 16, 32 or ADAPT; any other number is out of range (R4, R96). -/
def filterOf? : OneOrAdapt → Option Filter
  | .one 8 => some .k8
  | .one 16 => some .k16
  | .one 32 => some .k32
  | .one _ => none
  | .adapt => some .adapt

/-- A filter field that may be absent and otherwise names a filter (R96). -/
def maybeFilter (o : Option OneOrAdapt) : Checked (Option Filter) :=
  match o with
  | some f => (needField "filter" (filterOf? f)).map some
  | none => .ok none

/-! ### Taking a request (R181, R182) -/

/-- The line at the head of the inbound queue spells this request, and no start is to follow a RESTART (R173, R181). -/
def State.headSpells (i : Instr) (s : State) : Bool :=
  !s.clp.restartDue &&
    match s.clp.inbound with
    | l :: _ => readLine l == .request i
    | [] => false

/-- The line leaves the queue when its reply has gone (R181). -/
def State.popLine (s : State) : State := { s with clp.inbound := s.clp.inbound.tail }

/-- The owning block's answer to a request: the state with the reply sent, or the refusal, which has changed nothing (R182). -/
def State.answer (tag : Nat) (r : Checked State) (s : State) : State :=
  match r with
  | .ok t => t
  | .error e => s.send (.refused tag e.reason e.details)

/-- A request is taken when the line at the head of the queue spells it; the line leaves the queue with its reply. A request
command at another moment changes nothing (log 1, log 3). -/
def takeRequest (i : Instr) (tag : Nat) (act : State → Checked State) (s : State) :
    Host.Outcome State Fault Refusal :=
  .next (if s.headSpells i then (s.answer tag (act s)).popLine else s)

/-- The reply to an accepted request (R182). -/
def State.ok (tag : Nat) (fields : List Field) (s : State) : State := s.send (.ok tag fields)

/-- The reply block of an accepted query: its first line and then its record lines (R182). -/
def State.replyBlock (tag : Nat) (records : List (String × List Field)) (s : State) : State :=
  s.sendAll (.block tag records.length :: records.map fun r => .record tag r.1 r.2)

end Sys2Proof.Machine
end

