-- ==== Sys2Proof/Machine/Frames.lean ====
section
/-!
DEFINITION. Wayside frames: their bits and check (R184), the payloads the part sends (R185) and reads (R186), and the outbound
queue's post and withdrawal (R20, R23).
-/

namespace Sys2Proof.Machine

/-! ### Bits and the check of a frame (R184) -/

/-- The bits of a field, most significant first. -/
def bitsMsb (w : BitVec n) : List Bool := (List.range n).map fun i => w.getMsbD i

/-- The bits a frame's check is computed over: from the first urgency bit to the last payload bit (R184). -/
def checkedBits (f : WireFrame) : List Bool :=
  bitsMsb f.urgency ++ bitsMsb f.originator ++ bitsMsb f.kind ++ bitsMsb f.sequence ++ bitsMsb f.length ++
    f.payload.flatMap bitsMsb

/-- One bit taken into the check register, under the generator x^16 + x^12 + x^5 + 1 (R184). -/
def crcBit (r : BitVec 16) (b : Bool) : BitVec 16 :=
  if r.getMsbD 0 != b then (r <<< 1) ^^^ 0x1021#16 else r <<< 1

/-- The check of a frame: the register set to all ones before the first bit (R184). -/
def frameCheck (f : WireFrame) : BitVec 16 := (checkedBits f).foldl crcBit 0xFFFF#16

/-- All bits of a frame on the line, with its error-mark slot as the sender sends it; 1 is the recessive level (R184). -/
def frameBits (f : WireFrame) : List Bool :=
  [false] ++ checkedBits f ++ bitsMsb f.check ++ [true] ++ List.replicate 7 true

/-- The length field is 0 to 32, the octets received equal it, and the check is correct (R24). -/
def frameGood (f : WireFrame) : Bool :=
  decide (f.length.toNat ≤ 32) && decide (f.payload.length = f.length.toNat) && f.check == frameCheck f

/-! ### Kinds (R20, R26, R184) -/

/-- The unit-to-part kind of a code, if it is assigned (R184). -/
def inKind? (code : Nat) : Option InKind :=
  match code with
  | 16 => some .trackEvent
  | 17 => some .trackStatus
  | 18 => some .powerStatus
  | 19 => some .selectEcho
  | 20 => some .revokeEcho
  | 21 => some .stationStatus
  | 22 => some .playEnd
  | 23 => some .alarm
  | _ => none

/-- The kinds of frame a kind of unit may send (R26). -/
def maySend (u : UnitKind) (k : InKind) : Bool :=
  match k, u with
  | .trackEvent, .track => true
  | .trackStatus, .track => true
  | .revokeEcho, .track => true
  | .powerStatus, .power => true
  | .selectEcho, .power => true
  | .stationStatus, .station => true
  | .playEnd, .station => true
  | .alarm, _ => true
  | _, _ => false

/-- The code of a kind the part sends (R184). -/
def Body.kindCode : Body → Nat
  | .poll => 1
  | .authorise .. => 2
  | .revoke _ => 3
  | .revokeAll => 4
  | .select .. => 5
  | .operate .. => 6
  | .cancelSelect .. => 7
  | .play .. => 8
  | .stopPlay _ => 9
  | .display .. => 10

/-- The urgency of a frame by its kind (R20). -/
def Body.urgency : Body → Nat
  | .revoke _ => 0
  | .revokeAll => 0
  | .select .. => 1
  | .operate .. => 1
  | .cancelSelect .. => 1
  | .authorise .. => 2
  | .stopPlay _ => 2
  | .play _ _ emergency _ => if emergency then 2 else 4
  | .display .. => 5
  | .poll => 6

def Body.isPoll : Body → Bool
  | .poll => true
  | _ => false

/-! ### Payloads the part sends (R185) -/

def octet (n : Nat) : Octet := BitVec.ofNat 8 n

/-- A number of two octets, the more significant first (R184). -/
def twoOctets (n : Nat) : List Octet := [octet (n / 256), octet n]

/-- Phrase ids of 12 bits, two to every three octets, most significant bit first (R185). -/
def packPhrases : List Nat → List Octet
  | [] => []
  | [a] => [octet (a / 16), octet (a % 16 * 16)]
  | a :: b :: r => octet (a / 16) :: octet (a % 16 * 16 + b / 256 % 16) :: octet b :: packPhrases r

def actionCode : Action → Nat
  | .opening => 0
  | .closing => 1

/-- The octet of an indication: minutes, 100 for ARRIVING (R185). -/
def indicationCode : Indication → Nat
  | .minutes n => n
  | .arriving => 100

/-- The octets of a display item; 255 and train number 0 when there is no train (R185). -/
def itemOctets : Option DisplayItem → List Octet
  | some i => twoOctets i.train ++ [octet (indicationCode i.indication)]
  | none => twoOctets 0 ++ [octet 255]

def bitOctet (b : Bool) : Octet := if b then 1 else 0

/-- The payload octets after the destination (R185). -/
def Body.octets : Body → List Octet
  | .poll => []
  | .revokeAll => []
  | .authorise p n id => octet p :: (twoOctets n ++ [octet id])
  | .revoke id => [octet id]
  | .select n a c => [octet n, octet (actionCode a), octet c]
  | .operate n c => [octet n, octet c]
  | .cancelSelect n c => [octet n, octet c]
  | .play e o _ ph => octet e :: bitOctet o :: octet ph.length :: packPhrases ph
  | .stopPlay e => [octet e]
  | .display p v =>
    octet p :: (itemOctets v.first ++ itemOctets v.second ++
      (bitOctet v.closed :: octet v.message.length :: packPhrases v.message))

/-- A frame of the part as it goes out on the line (R20, R184, R185). -/
def wireFrame (f : OutFrame) : WireFrame :=
  let payload := twoOctets f.dest ++ f.body.octets
  let w : WireFrame :=
    { urgency := BitVec.ofNat 3 f.body.urgency, originator := 0, kind := BitVec.ofNat 5 f.body.kindCode,
      sequence := BitVec.ofNat 4 f.sequence, length := BitVec.ofNat 6 payload.length, payload := payload, check := 0 }
  { w with check := frameCheck w }

/-! ### Payloads the part reads (R186) -/

/-- A track report of one segment: occupied or entered, and the number read (R186). -/
structure TrackEntry where
  segment : Nat
  occupied : Bool
  number : Nat
deriving DecidableEq, Repr

/-- A TRACK_EVENT payload: event code, segment, number; absent when its length is wrong (R186). -/
def readTrackEvent (p : List Octet) : Option (Nat × Nat × Nat) :=
  match p with
  | [e, g, h, l] => some (e.toNat, g.toNat, 256 * h.toNat + l.toNat)
  | _ => none

/-- The entries of a TRACK_STATUS payload: three octets each (R186). -/
def readTrackEntries : List Octet → Option (List TrackEntry)
  | [] => some []
  | g :: h :: l :: r =>
    (readTrackEntries r).map
      ({ segment := g.toNat, occupied := h.getMsbD 0, number := 256 * (h.toNat % 4) + l.toNat } :: ·)
  | _ => none

/-- A TRACK_STATUS payload; absent when its count or length is wrong (R186). -/
def readTrackStatus (p : List Octet) : Option (List TrackEntry) :=
  match p with
  | n :: r =>
    if 1 ≤ n.toNat ∧ n.toNat ≤ 8 ∧ r.length = 3 * n.toNat then readTrackEntries r else none
  | [] => none

/-- One entry of a POWER_STATUS payload (R186). -/
structure PowerEntry where
  number : Nat
  closed : Bool
  trip : Bool
  voltage : Nat
deriving DecidableEq, Repr

def readPowerEntry (o : Octet) : PowerEntry :=
  { number := o.toNat / 16 + 1, closed := o.getLsbD 3, trip := o.getLsbD 2, voltage := o.toNat % 4 }

/-- A POWER_STATUS payload; absent when its count or length is wrong (R186). -/
def readPowerStatus (p : List Octet) : Option (List PowerEntry) :=
  match p with
  | n :: r => if 1 ≤ n.toNat ∧ n.toNat ≤ 16 ∧ r.length = n.toNat then some (r.map readPowerEntry) else none
  | [] => none

/-- A SELECT_ECHO payload: breaker number, action, code; absent when it does not fit its row (R186). -/
def readSelectEcho (p : List Octet) : Option (Nat × Action × Nat) :=
  match p with
  | [n, a, c] =>
    if 1 ≤ n.toNat ∧ n.toNat ≤ 16 then
      match a.toNat with
      | 0 => some (n.toNat, .opening, c.toNat)
      | 1 => some (n.toNat, .closing, c.toNat)
      | _ => none
    else none
  | _ => none

/-- A REVOKE_ECHO payload: authority id, and whether it came too late (R186). -/
def readRevokeEcho (p : List Octet) : Option (Nat × Bool) :=
  match p with
  | [i, o] =>
    match o.toNat with
    | 0 => some (i.toNat, false)
    | 1 => some (i.toNat, true)
    | _ => none
  | _ => none

/-- A STATION_STATUS payload: microphone taken, and the clip entry id, 0 for none (R186). -/
def readStationStatus (p : List Octet) : Option (Bool × Nat) :=
  match p with
  | [m, c] =>
    match m.toNat with
    | 0 => some (false, c.toNat)
    | 1 => some (true, c.toNat)
    | _ => none
  | _ => none

/-- Outcomes of a PLAY_END (R160). -/
inductive PlayOutcome where
  | done | refused | cut
deriving DecidableEq, Repr

/-- A PLAY_END payload: entry id and outcome (R186). -/
def readPlayEnd (p : List Octet) : Option (Nat × PlayOutcome) :=
  match p with
  | [e, o] =>
    match o.toNat with
    | 0 => some (e.toNat, .done)
    | 1 => some (e.toNat, .refused)
    | 2 => some (e.toNat, .cut)
    | _ => none
  | _ => none

/-! ### The outbound queue (R20, R23) -/

/-- A frame goes behind those of the same or a more urgent urgency (R23). -/
def enqueue (f : OutFrame) (q : List OutFrame) : List OutFrame :=
  insertAfter (fun a b => decide (a.body.urgency < b.body.urgency)) f q

/-- Post a frame: it takes the sequence counter's value and its place, or the post is refused at 32 frames (R20, R23). -/
def postFrame (dest : Nat) (b : Body) (s : State) : Option State :=
  if s.wlc.outQueue.length < 32 then
    let f : OutFrame :=
      { dest := dest, body := b, sequence := s.wlc.seqCounter, tries := 0, onLine := false, withdrawing := false,
        removing := false }
    some { s with wlc.outQueue := enqueue f s.wlc.outQueue, wlc.seqCounter := (s.wlc.seqCounter + 1) % 16 }
  else none

/-- Post a frame whose refusal has no consequence. -/
def postOrDrop (dest : Nat) (b : Body) (s : State) : State := (postFrame dest b s).getD s

/-- What a withdrawal meets: no such frame, a frame that leaves at once, or a frame whose try is on the line (R23). -/
inductive Withdrawal where
  | notFound | gone | later
deriving DecidableEq, Repr

/-- The first frame of the queue that a test picks and whose withdrawal has not been asked. -/
def findFrame (p : OutFrame → Bool) (s : State) : Option OutFrame :=
  s.wlc.outQueue.find? fun f => p f && !f.withdrawing

/-- Withdraw a frame: it leaves at once, or its withdrawal takes effect at the end of its try (R23). -/
def withdrawFrame (p : OutFrame → Bool) (s : State) : Withdrawal × State :=
  match findFrame p s with
  | none => (.notFound, s)
  | some f =>
    if f.onLine then
      (.later, { s with wlc.outQueue := s.wlc.outQueue.map fun g => if g == f then { g with withdrawing := true } else g })
    else (.gone, { s with wlc.outQueue := s.wlc.outQueue.erase f })

/-- A POLL to the unit is in the outbound queue (R28). -/
def pollQueued (a : Nat) (s : State) : Bool := s.wlc.outQueue.any fun f => f.dest == a && f.body.isPoll

/-- Post POLL to the pending unit of lowest address while the queue holds fewer than 24 frames (R28); each post takes one unit
off the pending ones, so as many rounds as there are units are enough. -/
def postPolls : Nat → State → State
  | 0, s => s
  | fuel + 1, s =>
    if s.wlc.outQueue.length < 24 then
      match s.wlc.registry.find? (·.pollPending) with
      | some u =>
        match postFrame u.address .poll s with
        | some t => postPolls fuel (t.modUnit u.address fun r => { r with pollPending := false })
        | none => s
      | none => s
    else s

/-- The POLL frames that the poll pending marks call for (R28). -/
def State.polls (s : State) : State := postPolls s.wlc.registry.length s

/-- Set a unit's silence timer again from the count: the poll point and the silence expiry (R28). -/
def UnitRec.restartTimer (now limit : Nat) (u : UnitRec) : UnitRec :=
  { u with silenceExpiry := now + limit, pollPoint := now + limit / 2, pollPassed := false }

/-- The silence limit of a unit (R9). -/
def State.silenceLimit (s : State) (a : Nat) : Nat := ((s.desc.unit? a).map (·.silence)).getD 0

end Sys2Proof.Machine
end

