-- ==== Sys2Proof/Machine/Store.lean ====
section
/-!
DEFINITION. The line store: placing and starting operations (R60, R61, R70), what each completion leaves in its region (R62), and
what a start finds (R63, R65).
-/

namespace Sys2Proof.Machine

/-! ### Placing and starting (R60, R61, R70) -/

/-- The other waiting list has room for one more operation (R60). -/
def State.otherRoom (s : State) : Bool := decide (s.lst.otherList.length < 4)

/-- Start the next operation when none is in flight: the oldest permit operation; otherwise the head of the other list, where a
commit keeps its place from page to page (R60, R61). An index write takes its values as it starts (R70). -/
def State.startOp (s : State) : State :=
  match s.lst.inFlight with
  | some _ => s
  | none =>
    match s.lst.permitList with
    | .permitWrite r :: l => { s with lst.permitList := l, lst.inFlight := some (.permitWrite r) }
    | .permitErase n :: l => { s with lst.permitList := l, lst.inFlight := some (.permitErase n) }
    | _ =>
      match s.lst.otherList with
      | .templateWrite i e :: l => { s with lst.otherList := l, lst.inFlight := some (.templateWrite i e) }
      | .responseWrite c v e :: l => { s with lst.otherList := l, lst.inFlight := some (.responseWrite c v e) }
      | .indexWrite :: l =>
        { s with lst.otherList := l, lst.inFlight := some (.indexWrite s.lst.active s.lst.scheduled) }
      | .commit i :: _ => { s with lst.inFlight := some (.commitPage i) }
      | .lineDescription d :: l => { s with lst.otherList := l, lst.inFlight := some (.lineDescription d) }
      | _ => s

/-- While the outstanding mark is set and the other list has room, one index write is placed and the mark cleared. A write that
already waits will carry the change (R70; log 13). -/
def State.placeIndex (s : State) : State :=
  if s.lst.indexDue then
    if s.lst.otherList.contains .indexWrite then { s with lst.indexDue := false }
    else if s.otherRoom then { s with lst.otherList := s.lst.otherList ++ [.indexWrite], lst.indexDue := false }
    else s
  else s

/-- The store's next choice, and the index write that is owed. -/
def State.storeNext (s : State) : State := s.startOp.placeIndex.startOp

/-- Place a permit operation on the permit list (R60). -/
def State.placePermitOp (op : StoreOp) (s : State) : State :=
  { s with lst.permitList := s.lst.permitList ++ [op] }.startOp

/-- Place an operation on the other list (R60). -/
def State.placeOtherOp (op : StoreOp) (s : State) : State :=
  { s with lst.otherList := s.lst.otherList ++ [op] }.startOp

/-- A STORE notice: region and entry, and outcome or state (R183). -/
def State.storeNotice (region : String) (entry : Value) (what : String) (s : State) : State :=
  s.notice .store [fld "region" (vWord region), fld "entry" entry, fld "result" (vWord what)]

/-! ### The indices (R70) -/

/-- Change the working indices: the outstanding mark is set, a STORE notice raised, which names the region INDICES, no entry and the word
CHANGED (log 69), the survey readiness computed (R175; log 76), and the write placed if there is room (R64, R70). -/
def State.setIndices (active scheduled : Option Nat) (s : State) : State :=
  let t := { s with lst.active := active, lst.scheduled := scheduled, lst.indexDue := true }
  (t.storeNotice "INDICES" vAbsent "CHANGED").updateReadiness.placeIndex.startOp

/-! ### Regions (R59, R62) -/

/-- The number of an incident class, in the order of R134. -/
def classNumber : IncClass → Nat
  | .trainStopped => 0
  | .powerTrip => 1
  | .powerDiscrepancy => 2
  | .passengerAlarm => 3
  | .platformFault => 4
  | .obstruction => 5
  | .fieldSilence => 6
  | .trackDiscrepancy => 7
  | .operator => 8

/-- The place of a class and severity in the response table. -/
def responseKey (c : IncClass) (v : Nat) : Nat := 4 * classNumber c + v

def findTemplate (l : List TemplatePlace) (i : Nat) : Option TemplatePlace := l.find? (·.index == i)

def putTemplate (i : Nat) (e : List Element) (damaged : Bool) (l : List TemplatePlace) : List TemplatePlace :=
  insertBy (·.index) { index := i, elements := e, damaged := damaged } l

def findResponse (l : List ResponsePlace) (c : IncClass) (v : Nat) : Option ResponsePlace :=
  l.find? fun r => r.cls == c && r.severity == v

def putResponse (c : IncClass) (v : Nat) (e : Response) (damaged : Bool) (l : List ResponsePlace) : List ResponsePlace :=
  insertBy (fun r => responseKey r.cls r.severity) { cls := c, severity := v, entry := e, damaged := damaged } l

/-- The content of a template place; an empty place has none (R151). -/
def templateElements (l : List TemplatePlace) (i : Nat) : List Element :=
  match findTemplate l i with
  | some p => if p.damaged then [] else p.elements
  | none => []

/-- The response of a class and severity; an entry that has never been written or is DAMAGED has the empty values (R139). -/
def responseEntry (l : List ResponsePlace) (c : IncClass) (v : Nat) : Response :=
  match findResponse l c v with
  | some p => if p.damaged then Response.empty else p.entry
  | none => Response.empty

/-- A working copy read from the store: DAMAGED entries are empty and marked (R139, R151). -/
def workingTemplates (l : List TemplatePlace) : List TemplatePlace :=
  l.map fun p => if p.damaged then { p with elements := [] } else p

def workingResponses (l : List ResponsePlace) : List ResponsePlace :=
  l.map fun p => if p.damaged then { p with entry := Response.empty } else p

/-! ### The slots (R65, R68) -/

/-- Change a slot's state with its STORE notice (R64, R65). -/
def State.slotNotice (i : Nat) (s : State) : State :=
  match s.slot? i with
  | some sl => s.storeNotice "SLOT" (vNum i) (slotStateWord sl.state)
  | none => s

/-- The number of timing points of a list of trips (R65). -/
def pointCount (l : List TripRecord) : Nat := (l.map fun t => t.points.length).sum

/-- The number of trip pages: a page holds whole trips, up to 256 timing points; `room` is what the page begun has left (R68). -/
def pagesFrom (room : Nat) : List TripRecord → Nat
  | [] => 0
  | t :: r => if t.points.length ≤ room then pagesFrom (room - t.points.length) r
              else 1 + pagesFrom (256 - t.points.length) r

/-- The pages of a commit: the trip pages and the directory (R68). -/
def commitPages (l : List TripRecord) : Nat := pagesFrom 0 l + 1

/-! ### What a start finds (R63, R65) -/

/-- The operation in flight at a start, settled by its region; `stored` is the store's outcome where R63 leaves it open. -/
def settleInFlight (stored : Bool) (l : Lst) : Lst :=
  match l.inFlight with
  | none => l
  | some (.permitWrite r) => if stored then { l with permits := insertBy (·.place) r l.permits } else l
  | some (.permitErase n) => if stored then { l with permits := l.permits.filter (·.place != n) } else l
  | some (.templateWrite i e) =>
    let d := ((findTemplate l.templates i).map (·.damaged)).getD false
    if stored then { l with templates := putTemplate i e d l.templates } else l
  | some (.responseWrite c v e) =>
    let d := ((findResponse l.responses c v).map (·.damaged)).getD false
    if stored then { l with responses := putResponse c v e d l.responses } else l
  | some (.indexWrite a sc) => if stored then { l with storedActive := a, storedScheduled := sc } else l
  | some (.commitPage _) => l
  | some (.lineDescription _) => { l with lineRegion := .damaged }

/-- A slot after a start: one found WRITING or COMMITTING is DAMAGED, and so is a VALID one whose check value differs (R63,
R65). -/
def startSlot (sl : Slot) : Slot :=
  match sl.state with
  | .writing => { sl with state := .damaged }
  | .committing => { sl with state := .damaged }
  | .valid => if Config.slotCheck sl.content = sl.check then sl else { sl with state := .damaged }
  | _ => sl

/-- An index as read at a start: NONE when the region is DAMAGED or the slot it names is not VALID (R63). -/
def startIndex (slots : List Slot) (damaged : Bool) (i : Option Nat) : Option Nat :=
  if damaged then none
  else i.filter fun n => (slots[n]?.map (·.state)) == some .valid

/-- The line store at a start (R63, R65, R70). -/
def startStore (stored : Bool) (l : Lst) : Lst :=
  let m := settleInFlight stored l
  let slots := m.slots.map startSlot
  { m with
    slots := slots, buffer := [], permitList := [], otherList := [], inFlight := none, indexDue := false,
    active := startIndex slots m.indicesDamaged m.storedActive,
    scheduled := startIndex slots m.indicesDamaged m.storedScheduled }

/-- Some region or entry is DAMAGED (R63). -/
def storeDamaged (l : Lst) : Bool :=
  l.lineRegion == .damaged || l.slots.any (·.state == .damaged) || l.templates.any (·.damaged) ||
    l.responses.any (·.damaged) || l.indicesDamaged

end Sys2Proof.Machine
end

