-- ==== Sys2Proof/Machine/Predict.lean ====
section
/-!
DEFINITION. Learned run times and arrival predictions (R94, R95, R97), and the timing points of a train's trip (R75).
-/

namespace Sys2Proof.Machine

/-- The learned run time of a segment in tenths; a segment that has none yet has its nominal time (R94, R95). -/
def State.learned (s : State) (seg : Nat) : Nat :=
  match s.srg.learned.find? (·.segment == seg) with
  | some l => l.tenths
  | none => ((s.desc.segment? seg).map (·.nominal)).getD 0

/-- The timing points of a trip of the active slot (R75). -/
def State.tripPoints (s : State) (trip : Nat) : List TimingPoint := ((s.tripRecord? trip).map (·.points)).getD []

/-- The direction of a trip of the active slot. -/
def State.tripDir (s : State) (trip : Nat) : Dir := ((s.tripRecord? trip).map (·.direction)).getD .up

/-- The first timing point of a trip at a platform, from a given point on, with its index (R80, R97). -/
def findPoint (dir : Dir) (p : Nat) : Nat → List TimingPoint → Option (Nat × TimingPoint)
  | _, [] => none
  | i, pt :: r => if pointPlatform dir pt = p then some (i, pt) else findPoint dir p (i + 1) r

def State.pointFrom? (s : State) (trip next p : Nat) : Option (Nat × TimingPoint) :=
  findPoint (s.tripDir trip) p next ((s.tripPoints trip).drop next)

/-- The segments strictly between a segment and a target along successors; absent when the path ends at a line end or returns to a
segment already on it (R5). -/
def pathTo (d : Description) (target : Nat) : Nat → List Nat → Nat → Option (List Nat)
  | 0, _, _ => none
  | fuel + 1, seen, cur =>
    match (d.segment? cur).bind (·.successor) with
    | none => none
    | some n =>
      if n = target then some []
      else if seen.contains n then none
      else (pathTo d target fuel (n :: seen) n).map (n :: ·)

/-- The dwell of a train at a platform on its path (R97). -/
def State.dwellAt (s : State) (t : Train) (p : Nat) : Nat :=
  match t.trip with
  | some k =>
    match s.pointFrom? k t.nextPoint p with
    | some (_, pt) => pt.dwell
    | none => 20
  | none => 20

/-- The head term of a prediction, in tenths (R97). -/
def State.headTerm (s : State) (t : Train) : Nat :=
  let run := s.learned t.head - 10 * (s.now - t.entryMark)
  match s.desc.platformOf? t.head, t.call with
  | some _, some c => run + 10 * (c.target - s.now)
  | _, _ => run

/-- The segment and dwell terms of a segment on the path, in tenths (R97). -/
def State.betweenTerm (s : State) (t : Train) (seg : Nat) : Nat :=
  s.learned seg + (match s.desc.platformOf? seg with
    | some p => 10 * s.dwellAt t p
    | none => 0)

/-- The prediction of a train at a platform, in whole seconds; absent when its path does not reach it (R97). -/
def State.prediction? (s : State) (p : Nat) (t : Train) : Option Nat :=
  match s.desc.platformSegment? p with
  | none => none
  | some g =>
    if t.state == .inService || t.state == .positioning then
      if t.head = g.index then some 0
      else
        (pathTo s.desc g.index s.desc.segments.length [t.head] t.head).map fun between =>
          (s.headTerm t + (between.map (s.betweenTerm t)).sum + 9) / 10
    else none

/-- The predictions at a platform, in ascending prediction and then train number (R97). -/
def State.predictions (s : State) (p : Nat) : List (Nat × Nat) :=
  orderBy (fun a b => decide (a.2 < b.2))
    (s.trk.trains.filterMap fun t => (s.prediction? p t).map fun k => (t.number, k))

/-! ### Learning (R94, R95) -/

/-- The divisor of the learning step (R95). -/
def learnDivisor (f : Filter) (learned : Nat) (d : Int) : Nat :=
  match f with
  | .k8 => 8
  | .k16 => 16
  | .k32 => 32
  | .adapt =>
    if 100 * d.natAbs ≤ 5 * learned then 32 else if 100 * d.natAbs ≤ 20 * learned then 16 else 8

/-- A quotient rounded to the nearest whole number, halves away from zero (R95; log 14). -/
def roundDiv (d : Int) (k : Nat) : Int :=
  let q := (2 * d.natAbs + k) / (2 * k)
  if d < 0 then -(q : Int) else q

/-- The range of a learned run time: the lower end rounded up, the upper end rounded down (R95). -/
def learnLow (g : Segment) : Nat := (g.nominal * (100 - g.lower) + 99) / 100
def learnHigh (g : Segment) : Nat := g.nominal * (100 + g.upper) / 100

/-- Clamp a learned run time to its segment's range (R95). -/
def learnClamp (g : Segment) (l : Nat) : Nat := max (learnLow g) (min (learnHigh g) l)

/-- The learned run time after a sample (R95). -/
def learnStep (g : Segment) (l sample : Nat) : Nat :=
  let d : Int := (sample : Int) - l
  learnClamp g ((l : Int) + roundDiv d (learnDivisor g.filter l d)).toNat

/-- A sample is within a third of and three times the nominal run time (R94). -/
def sampleOk (g : Segment) (sample : Nat) : Bool :=
  decide (sample ≤ 3 * g.nominal) && decide (g.nominal ≤ 3 * sample)

def State.setLearned (seg l : Nat) (s : State) : State :=
  { s with srg.learned := insertBy (·.segment) { segment := seg, tenths := l } s.srg.learned }

end Sys2Proof.Machine
end

