-- ==== Sys2Proof/Machine/Announce.lean ====
section
/-!
DEFINITION. The announcement scheduler's operations: expansion of templates (R151), entries, posts and withdrawals (R153 to R156),
zones (R157 to R162), line modes (R163) and displays (R164).
-/

namespace Sys2Proof.Machine

/-- Priorities from highest to lowest (R153). -/
def priorityRank : Priority → Nat
  | .emergency => 0
  | .safety => 1
  | .service => 2
  | .information => 3

/-- Entries the line mode lets zones select and pre-empt with (R163). -/
def modeAllows (m : Mode) (p : Priority) : Bool := isPassenger m || (isNight m && p == .emergency)

/-! ### Expansion (R151) -/

/-- What one element expands to when an entry is played at a station (R151). -/
def expandElement (d : Description) (e : Entry) (st : Nat) : Element → List Nat
  | .phrase id => [id]
  | .slot .station =>
    match (e.station.bind d.station?).orElse fun _ => d.station? st with
    | some r => [r.name]
    | none => []
  | .slot .minutes =>
    match e.minutes with
    | some n => [d.params.numberBase + min n 99]
    | none => []
  | .slot .platform =>
    match e.platform with
    | some p => [if p % 2 = 0 then 4094 else 4095]
    | none => []
  | .slot .train =>
    match e.train with
    | some n => [d.params.numberBase + n / 100 % 10, d.params.numberBase + n / 10 % 10, d.params.numberBase + n % 10]
    | none => []

/-- The expansion of an entry's template at a station; empty when the template is absent (R151). -/
def State.expansion (s : State) (e : Entry) (st : Nat) : List Nat :=
  (templateElements s.ans.templates e.template).flatMap (expandElement s.desc e st)

/-! ### Displays (R164) -/

/-- The indication of a prediction (R164). -/
def indicationOf (seconds : Nat) : Indication :=
  if seconds ≤ 30 then .arriving else .minutes (min 99 ((seconds + 59) / 60))

def displayItem (p : Nat × Nat) : DisplayItem := { train := p.1, indication := indicationOf p.2 }

/-- The scope of an entry: the stations of its deliveries (R153). -/
def Entry.scope (e : Entry) : List Nat := e.deliveries.map (·.station)

/-- The message of a platform's station: the expansion of its most urgent entry to be displayed (R164). -/
def State.messageFor (s : State) (st : Nat) (emergencyOnly : Bool) : List Nat :=
  match leastBy (fun e => priorityRank e.priority)
      (s.ans.entries.filter fun e => e.withdrawing.isNone && e.display && e.scope.contains st &&
        (!emergencyOnly || e.priority == .emergency)) with
  | some e => s.expansion e st
  | none => []

/-- The shown value of a platform (R164). -/
def State.shown (s : State) (p : Nat) : Shown :=
  let st := platformStation p
  if isNight s.lmc.mode then { first := none, second := none, closed := true, message := s.messageFor st true }
  else
    let l := s.predictions p
    { first := l[0]?.map displayItem, second := l[1]?.map displayItem, closed := false,
      message := s.messageFor st false }

/-- The station's unit, the destination of its frames (R2). -/
def State.stationUnit (s : State) (st : Nat) : Nat := ((s.desc.station? st).map (·.unit)).getD 0

/-- No DISPLAY is computed or sent in SURVEY or for a zone that is UNREACHABLE (R164). -/
def State.displayLive (s : State) (p : Nat) : Bool :=
  s.lmc.mode != .survey &&
    match s.zone? (platformStation p) with
    | some z => z.state != .unreachable
    | none => false

/-- Compute the shown value of a platform; DISPLAY is posted when it differs from the value last sent, or when forced by the
refresh expiry (R164). -/
def computeDisplay (force : Bool) (p : Nat) (s : State) : State :=
  match s.display? p with
  | none => s
  | some d =>
    if s.displayLive p then
      let v := s.shown p
      if force || d.last != some v then
        match postFrame (s.stationUnit (platformStation p)) (.display p v) s with
        | some t => t.modDisplay p fun d => { d with last := some v, refresh := some (s.now + 30) }
        | none => s.modDisplay p fun d => { d with refresh := some (s.now + 30) }
      else s
    else s

/-- Compute the displays of every platform, ascending (R164). -/
def State.displaysAll (s : State) : State := forEach s.desc.platforms (computeDisplay false) s

/-- Compute the displays of the platforms of some stations, ascending (R164). -/
def State.displaysAt (stations : List Nat) (s : State) : State :=
  forEach (s.desc.platforms.filter fun p => stations.contains (platformStation p)) (computeDisplay false) s

/-! ### Entries (R153, R156) -/

/-- An ANNOUNCE notice about an entry (R183). -/
def State.entryNotice (id : Nat) (event : String) (s : State) : State :=
  s.notice .announce [fld "id" (vNum id), fld "event" (vWord event)]

/-- An entry leaves the table with the cause of its removal; the displays of its stations are computed, at an eviction too, where no frame
is sent for the entry itself (R154, R156, R164; log 60). A zone that the removal lets select does so after these displays (log 66). -/
def removeEntry (id : Nat) (cause : RemovalCause) (s : State) : State :=
  match s.entry? id with
  | none => s
  | some e =>
    let t := { s with ans.entries := s.ans.entries.filter (·.id != id) }
    (t.entryNotice id (removalWord cause)).displaysAt e.scope

/-- A delivery that the zone is still busy with. -/
def Delivery.busy (d : Delivery) : Bool := d.state == .playing || d.state == .stopping

/-- A delivery that is finished. -/
def Delivery.finished (d : Delivery) : Bool := d.state == .done || d.state == .skipped

/-- An ACTIVE entry that is not CONTINUOUS is removed when every delivery is DONE or SKIPPED; a WITHDRAWING one when none is
PLAYING or STOPPING (R156). -/
def checkEntry (id : Nat) (s : State) : State :=
  match s.entry? id with
  | none => s
  | some e =>
    match e.withdrawing with
    | some cause => if e.deliveries.any Delivery.busy then s else removeEntry id cause s
    | none =>
      if e.rep != .continuous && e.deliveries.all Delivery.finished then removeEntry id .completed s else s

/-- A delivery becomes SKIPPED, which may complete its entry (R157). -/
def skipDelivery (id st : Nat) (s : State) : State :=
  checkEntry id
    ((s.modDelivery id st fun d => { d with state := .skipped, awaiting := false }).entryNotice id "SKIPPED")

/-- A delivery becomes PENDING again, eligible after a delay, its plays left unchanged (R158 to R162). -/
def requeueDelivery (id st delay : Nat) (s : State) : State :=
  s.modDelivery id st fun d =>
    { d with state := .pending, eligible := s.now + delay, awaiting := decide (0 < delay) }

/-- Plays left after a DONE play (R160). -/
def repeatFall : Repeat → Repeat
  | .times n => .times (n - 1)
  | .continuous => .continuous

def repeatRemains : Repeat → Bool
  | .times n => decide (0 < n)
  | .continuous => true

/-- A play that ended DONE: plays left fall by one, and the delivery waits for its next play or is DONE (R160). -/
def playDone (id st : Nat) (s : State) : State :=
  match s.entry? id with
  | none => s
  | some e =>
    let step : Delivery → Delivery := fun d =>
      let left := repeatFall d.plays
      if repeatRemains left then
        { d with plays := left, state := .pending, eligible := s.now + e.interval.getD 0, awaiting := true }
      else { d with plays := left, state := .done, awaiting := false }
    checkEntry id (s.modDelivery id st step)

/-! ### Zones: selection and play (R157, R158) -/

/-- A change of a zone's state; one into or out of LOCAL or UNREACHABLE raises an ANNOUNCE notice (R165). -/
def setZone (st : Nat) (new : ZoneState) (s : State) : State :=
  match s.zone? st with
  | none => s
  | some z =>
    let t := s.modZone st fun z => { z with state := new }
    if (z.state == .local_) != (new == .local_) || (z.state == .unreachable) != (new == .unreachable) then
      t.notice .announce [fld "station" (vNum st), fld "state" (vWord (zoneStateWord new))]
    else t

/-- An eligible delivery of an entry at a station (R153). -/
def eligibleAt (now st : Nat) (e : Entry) : Bool :=
  e.deliveries.any fun d => d.station == st && d.state == .pending && decide (d.eligible ≤ now)

/-- The entry a zone chooses: the highest priority, and the oldest among equals, of those the line mode and LOCAL allow (R157). -/
def State.choice (s : State) (st : Nat) (emergencyOnly : Bool) : Option Entry :=
  leastBy (fun e => priorityRank e.priority)
    (s.ans.entries.filter fun e => e.withdrawing.isNone && eligibleAt s.now st e && modeAllows s.lmc.mode e.priority &&
      (!emergencyOnly || e.priority == .emergency))

/-- Play a delivery: PLAY is posted and the zone becomes PLAYING; a refused post makes the delivery eligible again 1 s later
(R158). -/
def playDelivery (e : Entry) (st : Nat) (override : Bool) (phrases : List Nat) (s : State) : State :=
  match postFrame (s.stationUnit st) (.play e.id override (e.priority == .emergency) phrases) s with
  | none => requeueDelivery e.id st 1 s
  | some t =>
    setZone st (.playing e.id override false (s.now + 180))
      (t.modDelivery e.id st fun d => { d with state := .playing, awaiting := false })

/-- A zone that is IDLE or LOCAL selects; deliveries whose template yields nothing are skipped on the way. `fuel` is one more than
the number of entries, each of which can be skipped once (R157). -/
def chooseAndPlay (st : Nat) (isLocal : Bool) : Nat → State → State
  | 0, s => s
  | fuel + 1, s =>
    match s.choice st isLocal with
    | none => s
    | some e =>
      match s.expansion e st with
      | [] => chooseAndPlay st isLocal fuel (skipDelivery e.id st s)
      | phrases => playDelivery e st isLocal phrases s

/-- While UNREACHABLE, every eligible delivery whose entry is not CONTINUOUS becomes SKIPPED, whatever the line mode (R157, R162; log 62). -/
def skipUnreachable (st : Nat) (s : State) : State :=
  forEach ((s.ans.entries.filter fun e => e.withdrawing.isNone && e.rep != .continuous && eligibleAt s.now st e).map (·.id))
    (fun id t => skipDelivery id st t) s

/-- A zone makes its selection (R157). -/
def selectZone (st : Nat) (s : State) : State :=
  match s.zone? st with
  | none => s
  | some z =>
    match z.state with
    | .idle => chooseAndPlay st false (s.ans.entries.length + 1) s
    | .local_ => chooseAndPlay st true (s.ans.entries.length + 1) s
    | .unreachable => skipUnreachable st s
    | .playing .. => s
    | .stopping .. => s

/-- The microphone of a zone is TAKEN. -/
def State.micTaken (s : State) (st : Nat) : Bool := ((s.zone? st).bind (·.mic)) == some true

/-- A zone becomes IDLE, or LOCAL, and makes its selection. -/
def freeZone (st : Nat) (toLocal : Bool) (s : State) : State :=
  selectZone st (setZone st (if toLocal then .local_ else .idle) s)

/-! ### Stopping (R159) -/

/-- How a stop is confirmed, as far as the delivery is concerned (R159). -/
inductive Confirmation where
  | done | refused | back
deriving DecidableEq, Repr

/-- The delivery of a stopped entry, settled by the confirmation (R159). -/
def settleStopped (id st : Nat) (how : Confirmation) (s : State) : State :=
  match how with
  | .done => playDone id st s
  | .refused => skipDelivery id st s
  | .back => requeueDelivery id st 0 s

/-- The stop of a zone is confirmed: the delivery is settled, a WITHDRAWING entry may be removed, and the zone becomes IDLE, or LOCAL
if the microphone is TAKEN, and selects (R159). -/
def confirmStop (st : Nat) (how : Confirmation) (s : State) : State :=
  match s.zone? st with
  | none => s
  | some z =>
    match z.state with
    | .stopping id _ _ _ =>
      let t := checkEntry id (settleStopped id st how s)
      freeZone st (t.micTaken st) t
    | _ => s

/-- The PLAY frame of an entry to a unit (R158). -/
def isPlayOf (unit id : Nat) (f : OutFrame) : Bool :=
  f.dest == unit &&
    match f.body with
    | .play e _ _ _ => e == id
    | _ => false

/-- A zone that plays is stopped: a QUEUED frame is withdrawn, for a SENT one STOP_PLAY is posted (R159). -/
def stopZone (st : Nat) (next : Option Nat) (s : State) : State :=
  match s.zone? st with
  | none => s
  | some z =>
    match z.state with
    | .playing id _ sent limit =>
      let t := setZone st (.stopping id sent next limit) (s.modDelivery id st fun d => { d with state := .stopping })
      if sent then postOrDrop (s.stationUnit st) (.stopPlay id) t
      else
        match withdrawFrame (isPlayOf (s.stationUnit st) id) t with
        | (.gone, u) => confirmStop st .back u
        | (_, u) => u
    | _ => s

/-- An entry is withdrawn, for a cause that its removal will give (R156). -/
def withdrawEntry (id : Nat) (cause : RemovalCause) (s : State) : State :=
  match s.entry? id with
  | none => s
  | some e =>
    match e.withdrawing with
    | some _ => s
    | none =>
      let t := s.modEntry id fun e => { e with withdrawing := some cause }
      checkEntry id
        (forEach ((e.deliveries.filter (·.state == .playing)).map (·.station)) (fun st u => stopZone st none u) t)

/-- The entry of a higher priority than the next entry; a next entry that is no longer in the table gives way (R159; log 15). -/
def State.outranksNext (s : State) (e : Entry) (n : Nat) : Bool :=
  match s.entry? n with
  | some m => decide (priorityRank e.priority < priorityRank m.priority)
  | none => decide (priorityRank e.priority ≤ 1)

/-- The test for pre-emption when a delivery at a station becomes eligible (R159). -/
def preempt (id st : Nat) (s : State) : State :=
  match s.entry? id, s.zone? st with
  | some e, some z =>
    if e.withdrawing.isNone && eligibleAt s.now st e && modeAllows s.lmc.mode e.priority then
      match z.state with
      | .playing cur _ _ _ =>
        match s.entry? cur with
        | some c =>
          if priorityRank e.priority ≤ 1 ∧ priorityRank e.priority < priorityRank c.priority then
            stopZone st (some id) s
          else s
        | none => s
      | .stopping cur sent (some n) limit =>
        if s.outranksNext e n then setZone st (.stopping cur sent (some id) limit) s else s
      | _ => s
    else s
  | _, _ => s

/-- A delivery has become eligible: the zone selects, or the pre-emption is tested (R157, R159). -/
def offerDelivery (id st : Nat) (s : State) : State :=
  match s.zone? st with
  | none => s
  | some z =>
    match z.state with
    | .playing .. => preempt id st s
    | .stopping .. => preempt id st s
    | _ => selectZone st s

/-! ### Posts (R154) -/

/-- What a post asks for (R154); `expiryAfter` is its expiry duration. -/
structure Post where
  template : Nat
  station : Option Nat
  minutes : Option Nat
  platform : Option Nat
  train : Option Nat
  priority : Priority
  scope : List Nat
  origin : EntryOrigin
  rep : Repeat
  interval : Option Nat
  expiryAfter : Option Nat
  display : Bool
deriving DecidableEq, Repr

/-- The ANS's answer to a post (R154). -/
inductive PostAnswer where
  | made (id : Nat) (evicted : Option Nat)
  | noStation
  | full
deriving DecidableEq, Repr

/-- The entry that a post of a priority may evict: of those of lower priority with no delivery PLAYING or STOPPING, the oldest of
the lowest priority (R154). -/
def evictable (p : Priority) (l : List Entry) : Option Entry :=
  leastBy (fun e => 3 - priorityRank e.priority)
    (l.filter fun e => decide (priorityRank p < priorityRank e.priority) && !(e.deliveries.any Delivery.busy))

/-- The new entry of a post (R154). -/
def newEntry (now id : Nat) (scope : List Nat) (n : Post) : Entry :=
  { id := id, template := n.template, station := n.station, minutes := n.minutes, platform := n.platform,
    train := n.train, priority := n.priority, origin := n.origin, rep := n.rep, interval := n.interval,
    expiry := n.expiryAfter.map (now + ·), display := n.display, withdrawing := none,
    deliveries := scope.map fun st => { station := st, state := .pending, plays := n.rep, eligible := now, awaiting := false } }

/-- The entry is made with the next id; each zone of the scope selects or is tested for pre-emption, in ascending station, and then the
displays of its stations are computed: a DISPLAY of this post is posted after every PLAY and STOP_PLAY of its selections (R154, R156, R157,
R164; log 66). -/
def makeEntry (scope : List Nat) (n : Post) (s : State) : Nat × State :=
  let id := nextId 255 (s.ans.entries.map (·.id)) s.ans.lastId
  let t := { s with ans.entries := s.ans.entries ++ [newEntry s.now id scope n], ans.lastId := id }
  let u := forEach scope (fun st v => offerDelivery id st v) (t.entryNotice id "MADE")
  (id, u.displaysAt scope)

/-- A post is taken (R154). -/
def postEntry (n : Post) (s : State) : PostAnswer × State :=
  let scope := (ascending n.scope).filter fun st => (s.desc.station? st).isSome
  if scope.isEmpty then (.noStation, s)
  else if s.ans.entries.length < 48 then
    match makeEntry scope n s with
    | (id, t) => (.made id none, t)
  else
    match evictable n.priority s.ans.entries with
    | none => (.full, s)
    | some v =>
      match makeEntry scope n (removeEntry v.id .evicted s) with
      | (id, t) => (.made id (some v.id), t)

/-- A post from a block of the part: a refusal with FULL raises an ANNOUNCE notice, and with STATE is treated alike (R154, R165).
The entry id, when one was made. -/
def internalPost (n : Post) (s : State) : Option Nat × State :=
  match postEntry n s with
  | (.made id _, t) => (some id, t)
  | (.noStation, t) => (none, t)
  | (.full, t) => (none, t.notice .announce [fld "event" (vWord "FULL")])

/-- The SRG's update of a delay entry's MINUTES value; absent when no ACTIVE entry has the id (R154). -/
def updateMinutes (id m : Nat) (s : State) : Option State :=
  match s.entry? id with
  | none => none
  | some e =>
    if e.withdrawing.isSome then none
    else some ((s.modEntry id fun e => { e with minutes := some m }).displaysAt e.scope)

/-! ### What the units report (R158 to R162) -/

/-- The zone leaves PLAYING: LOCAL if it played over a microphone that is TAKEN, IDLE otherwise; it then selects (R160). -/
def leavePlaying (st : Nat) (override : Bool) (s : State) : State := freeZone st (override && s.micTaken st) s

/-- The outcome of a PLAY frame whose withdrawal had not been asked, or that a stop had asked to withdraw (R158). -/
inductive FrameEnd where
  | delivered | failed | withdrawn
deriving DecidableEq, Repr

/-- The outcome of a PLAY frame (R158, R159, R161). One whose withdrawal was asked, for whatever cause, and whose
try ends DELIVERED all the same is answered by STOP_PLAY (log 61). -/
def playOutcome (f : OutFrame) (id : Nat) (o : FrameEnd) (s : State) : State :=
  match s.desc.unitStation? f.dest with
  | none => s
  | some st =>
    match s.zoneState? st with
    | some (.stopping cur sent next limit) =>
      if cur = id ∧ sent = false then
        match o with
        | .delivered => postOrDrop f.dest (.stopPlay id) (setZone st (.stopping cur true next limit) s)
        | _ => confirmStop st .back s
      else if f.withdrawing && o == .delivered then postOrDrop f.dest (.stopPlay id) s else s
    | some (.playing cur override _ limit) =>
      if cur = id ∧ f.withdrawing = false then
        match o with
        | .delivered => setZone st (.playing cur override true limit) s
        | .failed => leavePlaying st override (requeueDelivery id st 1 s)
        | .withdrawn => s
      else if f.withdrawing && o == .delivered then postOrDrop f.dest (.stopPlay id) s else s
    | _ => if f.withdrawing && o == .delivered then postOrDrop f.dest (.stopPlay id) s else s

/-- A DISPLAY that ends FAILED makes the value last sent absent (R164). -/
def displayFailed (p : Nat) (s : State) : State := s.modDisplay p fun d => { d with last := none }

/-- A PLAY_END of a station's unit (R160). -/
def takePlayEnd (st id : Nat) (o : PlayOutcome) (s : State) : State :=
  match s.zoneState? st with
  | some (.stopping cur _ _ _) =>
    if cur = id then
      confirmStop st (match o with
        | .done => .done
        | .refused => .refused
        | .cut => .back) s
    else s
  | some (.playing cur override _ _) =>
    if cur = id then
      leavePlaying st override
        (match o with
        | .done => playDone id st s
        | .refused => skipDelivery id st s
        | .cut => requeueDelivery id st 0 s)
    else s
  | _ => s

/-- A STATION_STATUS of a station's unit: the microphone is recorded and the zone acts by its state (R161). -/
def takeStationStatus (st : Nat) (taken : Bool) (clip : Nat) (s : State) : State :=
  match s.zone? st with
  | none => s
  | some z =>
    let t := s.modZone st fun z => { z with mic := some taken }
    match z.state with
    | .unreachable => (freeZone st taken t).displaysAt [st]
    | .idle => if taken then freeZone st true t else t
    | .local_ => if taken then t else freeZone st false t
    | .playing id override sent _ =>
      if taken && !override then
        let u := requeueDelivery id st 0 t
        let v := if sent then u else (withdrawFrame (isPlayOf (s.stationUnit st) id) u).2
        freeZone st true v
      else t
    | .stopping id _ _ _ => if taken || clip != id then confirmStop st .back t else t

/-- The station unit has gone STALE (R162). -/
def staleZone (st : Nat) (s : State) : State :=
  match s.zone? st with
  | none => s
  | some z =>
    let t :=
      match z.state with
      | .playing id _ sent _ =>
        let u := checkEntry id (requeueDelivery id st 0 s)
        if sent then u else (withdrawFrame (isPlayOf (s.stationUnit st) id) u).2
      | .stopping id sent _ _ =>
        let u := checkEntry id (requeueDelivery id st 0 s)
        if sent then u else (withdrawFrame (isPlayOf (s.stationUnit st) id) u).2
      | _ => s
    let v := (setZone st .unreachable t).modZone st fun z => { z with mic := none }
    let w := forEach (s.desc.stationPlatforms st)
      (fun p x => x.modDisplay p fun d => { d with last := none, refresh := none }) (selectZone st v)
    w.notice .announce [fld "station" (vNum st), fld "state" (vWord "UNREACHABLE")]

/-! ### Line modes (R163) -/

/-- The report of a mode change: every zone that is IDLE or LOCAL selects, and every display is computed (R163). -/
def announceMode (s : State) : State :=
  let zones := (s.ans.zones.filter fun z => z.state == .idle || z.state == .local_).map (·.station)
  (forEach zones selectZone s).displaysAll

/-- The arrival entry of a move whose new head is the predecessor of a platform segment (R163). -/
def arrivalPost (s : State) (train p : Nat) : Post :=
  { template := s.desc.params.arrivalTemplate, station := some (platformStation p), minutes := none, platform := some p,
    train := some train, priority := .information, scope := [platformStation p], origin := .arrival train p,
    rep := .times 1, interval := none, expiryAfter := some 60, display := false }

/-- The platforms whose platform segment has a given predecessor, ascending (R5). -/
def Description.platformsAhead (d : Description) (seg : Nat) : List Nat :=
  d.platforms.filter fun p => ((d.platformSegment? p).bind fun g => d.predecessor? g.index) == some seg

/-- A head entry that is a move: an arrival entry is posted where R163 says so. -/
def arrivalEntries (train head : Nat) (s : State) : State :=
  forEach (s.desc.platformsAhead head)
    (fun p t =>
      let wanted := ((t.desc.station? (platformStation p)).map (·.arrival)).getD false
      let running := match t.train? train with
        | some r => r.state == .inService || r.state == .positioning
        | none => false
      if isPassenger t.lmc.mode && wanted && running && !(t.ans.entries.any (·.origin == .arrival train p)) then
        (internalPost (arrivalPost t train p) t).2
      else t) s

/-- A train's withdrawal: every arrival entry naming it is withdrawn (R163). -/
def dropArrivals (train : Nat) (s : State) : State :=
  let named : EntryOrigin → Bool := fun o =>
    match o with
    | .arrival n _ => n == train
    | _ => false
  forEach ((s.ans.entries.filter fun e => named e.origin).map (·.id)) (fun id t => withdrawEntry id .withdrawn t) s

end Sys2Proof.Machine
end

