-- ==== Sys2Proof/Machine/Regulate.lean ====
section
/-!
DEFINITION. The service regulator's operations: hold sets (R83), calls and their evaluation (R85, R86), start grants as the regulator
meets them (R110, R111), authorities and their revocation (R88, R89, R91), trips (R76 to R80) and delay entries (R98).
-/

namespace Sys2Proof.Machine

/-! ### Notices and train states (R43, R50) -/

/-- A TRAIN notice: train number and state (R183). -/
def State.trainNotice (n : Nat) (s : State) : State :=
  s.notice .train [fld "train" (vNum n), fld "state" (vMaybeWord ((s.train? n).map fun t => trainStateWord t.state))]

/-- A TRIP notice: trip number and state (R183). -/
def State.tripNotice (k : Nat) (s : State) : State :=
  s.notice .trip [fld "trip" (vNum k), fld "state" (vMaybeWord ((s.tripState? k).map fun t => tripStatusWord t.status))]

/-- The TRK sets a train's state, with its TRAIN notice and the displays that a state change has computed (R43, R164). -/
def setTrainState (n : Nat) (st : TrainState) (s : State) : State :=
  match s.train? n with
  | none => s
  | some t =>
    if t.state == st then s
    else ((s.modTrain n fun t => { t with state := st }).trainNotice n).displaysAll

/-! ### Evaluation of a call (R86, R88, R110) -/

/-- The unit that covers a platform's segment: the destination of AUTHORISE and REVOKE (R4). -/
def State.platformUnit (s : State) (p : Nat) : Nat := ((s.desc.platformSegment? p).map (·.unit)).getD 0

/-- The section of a platform's next segment. -/
def State.sectionAhead? (s : State) (p : Nat) : Option Nat := (s.desc.nextSegment? p).bind s.desc.sectionOf?

/-- The hold set of a platform. -/
def State.platHolds (s : State) (p : Nat) : List HoldReason := ((s.plat? p).map (·.holds)).getD []

/-- The five checks of an evaluation; the section ahead when all pass (R86). -/
def evaluationChecks (s : State) (t : Train) (c : Call) : Option Nat :=
  match s.desc.nextSegment? c.platform, s.sectionAhead? c.platform with
  | some g, some x =>
    if t.holds.isEmpty && (s.platHolds c.platform).isEmpty && s.occ g == .clear && s.secIs x .energised &&
        isPassenger s.lmc.mode && t.authority.isNone then some x
    else none
  | _, _ => none

/-- The parameter set in force: the peak set in TRAFFIC, the off-peak set otherwise (R85). A grant request takes its start window from it,
with the values of the moment (R87, R110). -/
def State.regulation (s : State) : Regulation := if s.lmc.mode == .traffic then s.srg.peak else s.srg.offPeak

/-- A section's limit: its budget, and one token more while its regeneration window is open (R110). -/
def State.tokenLimit (s : State) (x : Nat) : Nat :=
  match s.sec? x with
  | some r => r.budget + (if r.window.isSome then 1 else 0)
  | none => 0

/-- A grant request: a grant the train already holds is released first; made when the section is ENERGISED and the tokens fit the
limit (R110). Whether it was made, and the state after. -/
def requestGrant (n x draw window : Nat) (s : State) : Bool × State :=
  let t := { s with tpc.grants := s.tpc.grants.filter (·.train != n) }
  if t.secIs x .energised && decide (t.tokensUsed x + draw ≤ t.tokenLimit x) then
    let g : Grant := { train := n, sec := x, tokens := draw, expiry := t.now + window }
    (true, { t with tpc.grants := insertBy (·.train) g t.tpc.grants })
  else (false, t)

/-- How an evaluation ended: the call is settled, a grant was refused in a section, or the AUTHORISE post was refused. -/
inductive Evaluation where
  | settled
  | noGrant (sec : Nat)
  | noRoom (sec : Nat)
deriving DecidableEq, Repr

/-- The ids held by authority records (R88). -/
def State.authorityIds (s : State) : List Nat := s.trk.trains.filterMap fun t => t.authority.map (·.id)

/-- A grant has been made: AUTHORISE is posted and the authority issued, or, when the post is refused, the grant is released and
the call waits with its retry mark 1 s ahead (R88). -/
def issueAuthority (n x : Nat) (c : Call) (s : State) : Evaluation × State :=
  let id := nextId 255 s.authorityIds s.srg.authorityLast
  let t := { s with srg.authorityLast := id }
  match postFrame (t.platformUnit c.platform) (.authorise c.platform n id) t with
  | some u =>
    let a : Authority :=
      { id := id, platform := c.platform, state := .issued, issuedTime := t.lmc.lineTime, issuedCount := t.now,
        sent := false, revokeSends := 0, departed := false, echoLimit := none }
    (.settled, u.modTrain n fun r => { r with authority := some a,
                                               call := some { c with phase := .authorised, retry := none } })
  | none =>
    let u := t.modTrain n fun r => { r with call := some { c with phase := .waiting, retry := some (t.now + 1) } }
    (.noRoom x, { u with tpc.grants := u.tpc.grants.filter (·.train != n) })

/-- Evaluate a train's call (R86). -/
def evaluateCall (n : Nat) (s : State) : Evaluation × State :=
  match s.train? n with
  | none => (.settled, s)
  | some t =>
    match t.call with
    | none => (.settled, s)
    | some c =>
      match evaluationChecks s t c with
      | none => (.settled, s.modCall n fun c => { c with phase := .waiting })
      | some x =>
        match requestGrant n x t.draw s.regulation.window s with
        | (true, u) => issueAuthority n x c u
        | (false, u) => (.noGrant x, u.modCall n fun c => { c with phase := .waiting })

/-- The section a train's call leads into, when the call is WAITING. -/
def State.waitingSection? (s : State) (n : Nat) : Option Nat :=
  ((s.train? n).bind (·.call)).bind fun c => if c.phase == .waiting then s.sectionAhead? c.platform else none

/-- The trains whose call is WAITING, the earliest target mark first, the lower platform where marks are equal (R86). -/
def State.waitingTrains (s : State) : List Nat :=
  let calls : List (Nat × Call) := s.trk.trains.filterMap fun t => t.call.map fun c => (t.number, c)
  (orderBy (fun a b => decide (a.2.target < b.2.target) || (a.2.target == b.2.target && decide (a.2.platform < b.2.platform)))
    (calls.filter fun q => q.2.phase == .waiting)).map (·.1)

/-- The waiting trains into a section, in that order (R86). -/
def State.waitingInto (s : State) (x : Nat) : List Nat := s.waitingTrains.filter fun n => s.waitingSection? n == some x

/-- A call whose AUTHORISE post has just been refused waits for its retry mark (R88; log 12). -/
def State.retrying (s : State) (n : Nat) : Bool :=
  ((s.train? n).bind (·.call)).bind (·.retry) == some (s.now + 1)

/-- Evaluate waiting calls one after another. Once a grant in a section is refused, no further call into it is evaluated at this event
(R86). The release after a refused AUTHORISE post re-offers the section at once, to the calls that do not wait for a retry mark
(R88, R111; log 12). `fuel` bounds the evaluations. -/
def evaluateList : Nat → List Nat → List Nat → State → State
  | 0, _, _, s => s
  | _ + 1, [], _, s => s
  | fuel + 1, n :: ns, refused, s =>
    match s.waitingSection? n with
    | none =>
      -- a WAITING call at a platform that has left the description still fails its checks
      evaluateList fuel ns refused s
    | some x =>
      if refused.contains x then evaluateList fuel ns refused s
      else
        match evaluateCall n s with
        | (.settled, t) => evaluateList fuel ns refused t
        | (.noGrant y, t) => evaluateList fuel ns (y :: refused) t
        | (.noRoom y, t) =>
          evaluateList fuel ((t.waitingInto y).filter (fun m => !t.retrying m) ++ ns) refused t

/-- Enough for every call of the train table to be evaluated once in each of the re-offers that one event can set off. -/
def State.evaluationFuel (s : State) : Nat := (s.trk.trains.length + 1) * (s.trk.trains.length + 2)

/-- Evaluate some waiting calls in order. -/
def evaluateMany (ns : List Nat) (s : State) : State := evaluateList s.evaluationFuel ns [] s

/-- A re-offer of a section's departures (R86, R111). -/
def reoffer (x : Nat) (s : State) : State := evaluateMany (s.waitingInto x) s

/-- Evaluate one call, which may be DWELLING (R86). -/
def evaluate (n : Nat) (s : State) : State :=
  match evaluateCall n s with
  | (.noRoom y, t) => evaluateMany ((t.waitingInto y).filter fun m => !t.retrying m) t
  | (_, t) => t

/-! ### Grants and authorities (R89, R91, R111) -/

/-- A train's call is WAITING. -/
def State.isWaiting (s : State) (n : Nat) : Bool := (((s.train? n).bind (·.call)).map (·.phase)) == some .waiting

/-- An authority of a train has ended (R91, R92): a call of the train that is WAITING is evaluated, at whatever platform it is (R86). -/
def authorityEnded (n : Nat) (s : State) : State := if s.isWaiting n then evaluate n s else s

/-- Remove a train's grant and, when its section is ENERGISED, re-offer the section's departures (R111). -/
def dropGrant (n : Nat) (s : State) : State :=
  match s.grant? n with
  | none => s
  | some g =>
    let t := { s with tpc.grants := s.tpc.grants.filter (·.train != n) }
    if t.secIs g.sec .energised then reoffer g.sec t else t

/-- An authority ends as withdrawn: its record is removed, the grant released, and a call still at its platform becomes WAITING and
is evaluated at once (R91); a WAITING call at another platform is evaluated too (R86). A call that was WAITING already, and that the
re-offer of the released grant has given a new authority, stays AUTHORISED (log 33). -/
def endWithdrawn (n : Nat) (s : State) : State :=
  match (s.train? n).bind (·.authority) with
  | none => s
  | some a =>
    let t := dropGrant n (s.modTrain n fun r => { r with authority := none })
    if ((t.train? n).bind (·.authority)).isSome then t
    else
      match (t.train? n).bind (·.call) with
      | some c =>
        if c.platform = a.platform then evaluate n (t.modCall n fun c => { c with phase := .waiting }) else authorityEnded n t
      | none => t

/-- The AUTHORISE frame of an authority (R88). -/
def isAuthoriseOf (id : Nat) (f : OutFrame) : Bool :=
  match f.body with
  | .authorise _ _ i => i == id
  | _ => false

/-- REVOKE is sent for the first time: the revoke echo limit of 3 s starts, whether or not the post is accepted (R89, R91). -/
def sendRevoke (n : Nat) (a : Authority) (s : State) : State :=
  (postOrDrop (s.platformUnit a.platform) (.revoke a.id) s).modAuthority n fun r =>
    { r with revokeSends := 1, echoLimit := some (s.now + 3) }

/-- Revoke a train's authority if it is ISSUED (R89). -/
def revoke (n : Nat) (s : State) : State :=
  match (s.train? n).bind (·.authority) with
  | none => s
  | some a =>
    if a.state == .issued then
      let t := s.modAuthority n fun r => { r with state := .revoking }
      if a.sent then sendRevoke n a t
      else
        match withdrawFrame (isAuthoriseOf a.id) t with
        | (.gone, u) => endWithdrawn n u
        | (_, u) => u
    else s

/-- A grant is released for a cause of the TPC's own: its end is reported to the SRG, which revokes an ISSUED authority, and then the
section's departures are re-offered if it is ENERGISED (R89, R111). -/
def releaseGrant (n : Nat) (s : State) : State :=
  match s.grant? n with
  | none => s
  | some g =>
    let t := revoke n { s with tpc.grants := s.tpc.grants.filter (·.train != n) }
    if t.secIs g.sec .energised then reoffer g.sec t else t

/-- The outcome of an AUTHORISE frame (R88). -/
def authoriseOutcome (id : Nat) (o : FrameEnd) (s : State) : State :=
  match s.trk.trains.find? fun t => (t.authority.map (·.id)) == some id with
  | none => s
  | some t =>
    match t.authority with
    | none => s
    | some a =>
      match o with
      | .delivered =>
        let u := s.modAuthority t.number fun r => { r with sent := true }
        if a.state == .revoking && !a.sent then sendRevoke t.number a u else u
      | _ =>
        if a.state == .revoking && !a.sent then endWithdrawn t.number s
        else if a.state == .issued && o == .failed then
          let u := dropGrant t.number (s.modTrain t.number fun r => { r with authority := none })
          u.modCall t.number fun c =>
            if c.platform = a.platform then { c with phase := .waiting, retry := some (s.now + 1) } else c
        else s

/-! ### Hold sets (R83) -/

def addReason (r : HoldReason) (l : List HoldReason) : List HoldReason := if l.contains r then l else l ++ [r]
def dropReason (r : HoldReason) (l : List HoldReason) : List HoldReason := l.filter (· != r)

/-- Add a reason to a train's hold set (R83). -/
def addTrainHold (n : Nat) (r : HoldReason) (s : State) : State :=
  match s.train? n with
  | none => s
  | some t =>
    if t.holds.contains r then s
    else revoke n (s.modTrain n fun t => { t with holds := addReason r t.holds })

/-- The trains whose authority is for a platform, ascending. -/
def State.authorisedAt (s : State) (p : Nat) : List Nat :=
  (s.trk.trains.filter fun t => (t.authority.map (·.platform)) == some p).map (·.number)

/-- Add a reason to a platform's hold set (R83). -/
def addPlatformHold (p : Nat) (r : HoldReason) (s : State) : State :=
  match s.plat? p with
  | none => s
  | some q =>
    if q.holds.contains r then s
    else
      let t := s.modPlat p fun q => { q with holds := addReason r q.holds }
      forEach (t.authorisedAt p) revoke t

/-- Remove a reason from a train's hold set; a set left empty has the train's waiting call evaluated (R83). -/
def removeTrainHold (n : Nat) (r : HoldReason) (s : State) : State :=
  match s.train? n with
  | none => s
  | some t =>
    if t.holds.contains r then
      let u := s.modTrain n fun t => { t with holds := dropReason r t.holds }
      if (dropReason r t.holds).isEmpty && u.isWaiting n then evaluate n u else u
    else s

/-- The trains whose call is WAITING at a platform. -/
def State.waitingAt (s : State) (p : Nat) : List Nat :=
  s.waitingTrains.filter fun n => (((s.train? n).bind (·.call)).map (·.platform)) == some p

/-- Remove a reason from a platform's hold set; a set left empty has the waiting call there evaluated (R83). -/
def removePlatformHold (p : Nat) (r : HoldReason) (s : State) : State :=
  match s.plat? p with
  | none => s
  | some q =>
    if q.holds.contains r then
      let u := s.modPlat p fun q => { q with holds := dropReason r q.holds }
      if (dropReason r q.holds).isEmpty then evaluateMany (u.waitingAt p) u else u
    else s

/-! ### Delay entries (R98) -/

/-- Withdraw a train's delay entry; its id is cleared (R98). -/
def dropDelay (n : Nat) (s : State) : State :=
  match (s.train? n).bind (·.delayEntry) with
  | none => s
  | some id => withdrawEntry id .withdrawn (s.modTrain n fun t => { t with delayEntry := none })

/-- Whole minutes of a deviation, rounded up (R98). -/
def delayMinutes (d : Int) : Nat := (d.toNat + 59) / 60

/-- The delay entry of a train (R98). -/
def delayPost (s : State) (t : Train) (k : Nat) : Post :=
  { template := s.desc.params.delayTemplate, station := none, minutes := some (delayMinutes t.deviation),
    platform := none, train := some t.number, priority := .service,
    scope := ((s.tripPoints k).drop t.nextPoint).map (·.station), origin := .train t.number, rep := .times 2,
    interval := some 180, expiryAfter := none, display := true }

/-- The delay rule, at each departure of a train with a trip (R98). -/
def delayRule (n : Nat) (s : State) : State :=
  match s.train? n with
  | none => s
  | some t =>
    match t.trip with
    | none => s
    | some k =>
      if (s.srg.onThreshold : Int) ≤ t.deviation then
        match t.delayEntry with
        | none =>
          match internalPost (delayPost s t k) s with
          | (some id, u) => u.modTrain n fun t => { t with delayEntry := some id }
          | (none, u) => u
        | some id =>
          match updateMinutes id (delayMinutes t.deviation) s with
          | some u => u
          | none => s.modTrain n fun t => { t with delayEntry := none }
      else if t.deviation ≤ (s.srg.offThreshold : Int) then dropDelay n s
      else s

/-! ### Calls (R85) -/

/-- The target mark of a call, by the parameters in force when it began (R85, R87; log 63). A timing point without a planned departure has the ready mark (log 16). -/
def targetMark (s : State) (c : Call) (pt : Option TimingPoint) (ready : Nat) : Nat :=
  match pt with
  | none => ready
  | some q =>
    match c.regulation.method with
    | .schedule =>
      match q.departure with
      | none => ready
      | some d =>
        let t : Int := (c.arrivalCount : Int) + (s.offset d - c.regulation.tolerance - s.offset c.arrivalTime : Int)
        max ready t.toNat
    | .headway =>
      match (s.plat? c.platform).bind (·.lastDeparture) with
      | some m => max ready (m + c.regulation.headway)
      | none => ready

/-- A call with its marks computed for its timing point on a trip (R85). -/
def withMarks (s : State) (trip : Option Nat) (c : Call) : Call :=
  let pt := match trip, c.point with
    | some k, some j => (s.tripPoints k)[j]?
    | _, _ => none
  let ready := c.arrivalCount + ((pt.map (·.dwell)).getD 20)
  { c with ready := ready, target := targetMark s c pt ready }

/-- A call begins at an arrival, and keeps the parameter set in force then (R85; log 63). -/
def startCall (n p : Nat) (point : Option Nat) (s : State) : State :=
  let c : Call :=
    { platform := p, arrivalCount := s.now, arrivalTime := s.lmc.lineTime, point := point, ready := 0, target := 0,
      phase := .dwelling, retry := none, departWait := none, regulation := s.regulation }
  s.modTrain n fun t => { t with call := some (withMarks s t.trip c) }

/-- A call ends other than by a departure, which revokes an ISSUED authority (R85). -/
def abortCall (n : Nat) (s : State) : State :=
  match (s.train? n).bind (·.call) with
  | none => s
  | some _ => revoke n (s.modTrain n fun t => { t with call := none })

/-! ### Trips (R76 to R80) -/

/-- Deviations are clamped to an hour either way (R80). -/
def clampDeviation (d : Int) : Int := max (-3600) (min 3600 d)

/-- The deviation of an event now from a planned time of day (R80). -/
def State.deviationFrom (s : State) (planned : Nat) : Int := clampDeviation ((s.nowOffset : Int) - s.offset planned)

/-- A train loses its trip: the TRK is told, which makes an IN_SERVICE train POSITIONING, and its call keeps no timing point (R43,
R76, R80, R81). Its next timing point and deviation stay as they were (log 23). -/
def loseTrip (n : Nat) (s : State) : State :=
  let t := s.modTrain n fun t => { t with trip := none, call := t.call.map fun c => { c with point := none } }
  if (t.train? n).any (·.state == .inService) then setTrainState n .positioning t else t

/-- A trip ends in a final state, or returns to PENDING, with a TRIP notice (R75). -/
def setTrip (k : Nat) (st : TripStatus) (cause : Option CancelCause) (s : State) : State :=
  (s.modTrip k fun t => { t with status := st, train := none, cause := cause }).tripNotice k

/-- A trip is given to a train; the marks of its call are computed again from the parameters that were in force when the call began: a
REGULATION_SET or a change of mode since then does not reach them (R78, R85, R87; log 63), and its phase is kept (log 39). -/
def giveTrip (n k : Nat) (s : State) : State :=
  let t := (s.modTrip k fun r => { r with status := .running, train := some n }).modTrain n fun r =>
    { r with trip := some k, nextPoint := 0, deviation := 0 }
  let u := setTrainState n .inService t
  let v := u.modCall n fun c => withMarks u (some k) { c with point := some 0 }
  v.tripNotice k

/-- The platform of a trip's first timing point. -/
def State.firstPlatform? (s : State) (k : Nat) : Option Nat :=
  (s.tripPoints k).head?.map (pointPlatform (s.tripDir k))

/-- The trip that automatic assignment takes at a platform (R78). -/
def State.assignable (s : State) (p : Nat) : Option TripState :=
  leastBy (fun t => s.offset t.start)
    (s.srg.trips.filter fun t => t.status == .pending && s.firstPlatform? t.number == some p &&
      decide (s.offset t.start ≤ s.nowOffset + 600))

/-- Automatic assignment for a train (R78). -/
def assignTrip (n : Nat) (s : State) : State :=
  match s.train? n with
  | none => s
  | some t =>
    match s.desc.platformOf? t.head with
    | none => s
    | some p =>
      let terminal := ((s.desc.station? (platformStation p)).map (·.terminal)).getD false
      if isPassenger s.lmc.mode && t.state == .positioning && terminal then
        match s.assignable p with
        | some r => giveTrip n r.number s
        | none => s
      else s

/-- An arrival of a train at a platform is matched against its trip, and the call begins (R80, R85). A call at the last point of the trip
keeps no timing point, so its marks are those of a call without one (log 57). -/
def arrive (n p : Nat) (s : State) : State :=
  match s.train? n with
  | none => s
  | some t =>
    match t.trip with
    | none => assignTrip n (startCall n p none s)
    | some k =>
      match s.pointFrom? k t.nextPoint p with
      | none => startCall n p none s
      | some (j, pt) =>
        let s1 := s.modTrain n fun t => { t with nextPoint := j }
        let s2 := match pt.arrival with
          | some a =>
            (s1.modTrain n fun t => { t with deviation := s.deviationFrom a }).modTrip k fun r =>
              { r with deviation := some (s.deviationFrom a) }
          | none => s1
        if j + 1 = (s.tripPoints k).length then
          let s3 := setTrip k .done none (startCall n p none s2)
          assignTrip n (dropDelay n (loseTrip n s3))
        else startCall n p (some j) s2

/-- A departure of a train from a platform is recorded: the last departure mark, the next timing point and the actual start, the
deviation from a planned departure, the delay rule, and the end of the call (R80, R90). A timing point without a planned departure leaves
the deviation (log 16). -/
def recordDeparture (n p : Nat) (s : State) : State :=
  match s.train? n with
  | none => s
  | some t =>
    let s1 := s.modPlat p fun q => { q with lastDeparture := some s.now }
    let s2 := match t.trip, (t.call.bind fun c => if c.platform = p then c.point else none) with
      | some k, some j =>
        let dev := (((s.tripPoints k)[j]?).bind (·.departure)).map s.deviationFrom
        (s1.modTrain n fun t => { t with deviation := dev.getD t.deviation, nextPoint := j + 1 }).modTrip k fun r =>
          { r with deviation := dev.or r.deviation, actualStart := if j = 0 then some s.lmc.lineTime else r.actualStart }
      | _, _ => s1
    let s3 := delayRule n s2
    s3.modTrain n fun t => { t with call := none }

/-- A trip's lapse point has been reached (R77). -/
def State.lapsed (s : State) (start : Nat) : Bool := s.lmc.timeSet && decide (s.offset start + 300 ≤ s.nowOffset)

/-- The trips that lapse now (R77). -/
def lapseTrips (s : State) : State :=
  forEach ((s.srg.trips.filter fun t => t.status == .pending && s.lapsed t.start).map (·.number))
    (fun k t => setTrip k .lapsed none t) s

/-- A record of the trip state table after a rebuild (R76). -/
def rebuiltTrip (s : State) (r : TripRecord) : TripState :=
  let absent := r.points.any fun pt => (s.desc.station? pt.station).isNone || !s.desc.platformExists (pointPlatform r.direction pt)
  { number := r.number, run := r.run, direction := r.direction, start := r.start,
    status := if absent then .cancelled else if s.lapsed r.start then .lapsed else .pending,
    train := none, actualStart := none, deviation := none, cause := if absent then some .line else none }

/-- The trip state table is rebuilt from the active slot (R76). -/
def rebuildTrips (s : State) : State :=
  let bearers := (s.trk.trains.filter (·.trip.isSome)).map (·.number)
  let t := forEach bearers (fun n u => loseTrip n (dropDelay n u)) s
  let u := { t with srg.trips := t.activeTrips.map (rebuiltTrip t) }
  u.notice .trip [fld "event" (vWord "REBUILT")]

/-! ### Learning (R94, R95) -/

/-- A move from one segment to another takes a sample, where R94 says so. `stalled` tells whether the train had a stall mark. -/
def takeSample (n old new : Nat) (stalled : Bool) (s : State) : State :=
  match s.desc.segment? old, s.train? n with
  | some g, some t =>
    let sample := 10 * (s.now - t.entryMark)
    if g.successor == some new && t.entryMove && g.platform.isNone && !stalled && sampleOk g sample then
      s.setLearned old (learnStep g (s.learned old) sample)
    else s
  | _, _ => s

/-- Every head entry sets the entry mark (R94). -/
def setEntryMark (n : Nat) (move : Bool) (s : State) : State :=
  s.modTrain n fun t => { t with entryMark := s.now, entryMove := move }

/-! ### Line modes (R78, R86, R89) -/

/-- The report of a mode change to the SRG: leaving TRAFFIC and REDUCED revokes every ISSUED authority; coming into them evaluates the
waiting calls and then tries assignment, in ascending train number (R78, R86, R89, R167). -/
def regulateMode (old new : Mode) (s : State) : State :=
  if isPassenger old && !isPassenger new then forEach (s.trk.trains.map (·.number)) revoke s
  else if !isPassenger old && isPassenger new then
    let t := evaluateMany s.waitingTrains s
    forEach (t.trk.trains.map (·.number)) assignTrip t
  else s

end Sys2Proof.Machine
end

