-- ==== Sys2Proof/Machine/Power.lean ====
section
/-!
DEFINITION. The traction power controller's operations: section states and POWER holds (R99, R102, R108), breaker commands (R103,
R104), energise sequences (R113, R114), de-energising and the night hold (R116, R118), budgets (R109), isolations and permits (R121 to
R128), and the work that one event leaves to be settled before its step ends (log 10).
-/

namespace Sys2Proof.Machine

/-! ### Notices -/

/-- A SECTION notice: section, state, lockout (R183). -/
def State.sectionNotice (x : Nat) (s : State) : State :=
  match s.sec? x with
  | some r =>
    s.notice .section_ [fld "section" (vNum x), fld "state" (vWord (sectionStateWord r.state)), fld "lockout" (vYes r.lockout)]
  | none => s

/-- A SECTION notice for a breaker's command: it names the lowest section the breaker feeds (log 24). -/
def State.breakerNotice (b : Nat) (s : State) : State :=
  match ascending (s.desc.sectionsFed b) with
  | x :: _ => s.sectionNotice x
  | [] => s

/-- A PERMIT notice: permit id and state (R183). -/
def State.permitNotice (id : Nat) (s : State) : State :=
  s.notice .permit
    [fld "id" (vNum id), fld "state" (vMaybeWord ((s.permit? id).map fun p => permitStateWord p.state))]

/-! ### Voltage and budget (R101, R109) -/

/-- The unit of a breaker is LIVE. -/
def State.unitLive (s : State) (a : Nat) : Bool := ((s.unitRec? a).map (·.state)) == some .live

/-- The reports of a section's feeders whose units are LIVE (R101). -/
def State.feederReports (s : State) (x : Nat) : List Bool :=
  (s.desc.feedersOf x).filterMap fun b => if s.unitLive (s.desc.breakerUnit b) then (s.brk? b).bind (·.voltage) else none

/-- A section's voltage as its feeders report it (R101). -/
def State.derivedVoltage (s : State) (x : Nat) : Voltage :=
  let l := s.feederReports x
  if l.any id then .present else if l.isEmpty then .unknown else .absent

/-- The recorded voltage of a section. -/
def State.voltage (s : State) (x : Nat) : Voltage := ((s.sec? x).map (·.voltage)).getD .unknown

/-- The feeder of a substation's unit into a section is CLOSED (R7). -/
def State.feedsClosed (s : State) (unit x : Nat) : Bool :=
  s.desc.breakers.any fun b => b.kind == .feeder && b.unit == unit && b.sections.contains x && s.brkState? b.index == some .closed

/-- What a substation adds to a section's budget (R7, R109). -/
def State.contribution (s : State) (x : Nat) (sub : Substation) : Nat :=
  if s.unitLive sub.unit && s.feedsClosed sub.unit x then
    ((sub.contributions.find? (·.1 == x)).map (·.2)).getD 0
  else 0

/-- A section's budget as the breakers and units stand, capped at 15 (R109). -/
def State.budgetNow (s : State) (x : Nat) : Nat := min 15 ((s.desc.substations.map (s.contribution x)).sum)

/-- Recompute a section's budget; a rise while it is ENERGISED re-offers its departures (R109). -/
def recomputeBudget (x : Nat) (s : State) : State :=
  match s.sec? x with
  | none => s
  | some r =>
    let b := s.budgetNow x
    let t := s.modSec x fun r => { r with budget := b }
    if r.budget < b ∧ r.state = .energised then reoffer x t else t

/-- Recompute the budgets of some sections, in the order given. -/
def recomputeBudgets (xs : List Nat) (s : State) : State := forEach xs recomputeBudget s

/-! ### The state of a breaker (R100, R124) -/

/-- An isolation that no longer waits on a breaker (R124). -/
def Isolation.without (b : Nat) (i : Isolation) : Isolation :=
  match i.phase with
  | .opening w => { i with phase := .opening (w.filter (· != b)) }
  | _ => i

/-- A breaker in the waiting set of an isolation in OPENING. -/
def Isolation.waitsOn (i : Isolation) (b : Nat) : Bool :=
  match i.phase with
  | .opening w => w.contains b
  | _ => false

/-- The sections whose isolations wait on a breaker, ascending (R124). -/
def State.waitingOn (s : State) (b : Nat) : List Nat := (s.tpc.isolations.filter fun i => i.waitsOn b).map (·.sec)

/-- A breaker takes a state. One that becomes OPEN, whatever the cause, leaves the waiting set of every isolation at once (R124, R126). -/
def setBreaker (b : Nat) (st : BreakerState) (s : State) : State :=
  let t := s.modBrk b fun r => { r with state := st }
  if st == .opened then { t with tpc.isolations := t.tpc.isolations.map (Isolation.without b) } else t

/-! ### Ends of breaker commands (R103, R104) -/

/-- Two records are of the same command: a breaker has at most one OPEN and one CLOSE in the queue. -/
def Cmd.same (c d : Cmd) : Bool := c.breaker == d.breaker && c.action == d.action

/-- A command is in flight (R103). -/
def Cmd.inFlight (c : Cmd) : Bool := c.phase != .queued

/-- Change a command of the queue. -/
def State.modCmd (c : Cmd) (f : Cmd → Cmd) (s : State) : State :=
  { s with tpc.queue := modify c.same f s.tpc.queue }

/-- The end of a command, in the queue or at its breaker: the breaker's last outcome, the report to its origin, and a SECTION
notice unless a command of another origin than OPERATOR ended DONE (R103, R120). -/
def reportEnd (b : Nat) (a : Action) (origin : CmdOrigin) (o : CmdOutcome) (s : State) : State :=
  let t := s.modBrk b fun r => { r with outcome := some o }
  let u := { t with tpc.reports := t.tpc.reports ++ [{ breaker := b, action := a, origin := origin, outcome := o, waiting := t.waitingOn b }] }
  if o != .done || origin == .operator then u.breakerNotice b else u

/-- A command ends and leaves the queue (R103). -/
def endCmd (c : Cmd) (o : CmdOutcome) (s : State) : State :=
  reportEnd c.breaker c.action c.origin o { s with tpc.queue := s.tpc.queue.filter fun d => !c.same d }

/-- The number of a breaker within its unit (R8). -/
def State.breakerNumber (s : State) (b : Nat) : Nat := ((s.desc.breaker? b).map (·.number)).getD 0

/-- Post CANCEL_SELECT; its outcome has no effect (R104). -/
def cancelSelect (unit number code : Nat) (s : State) : State := postOrDrop unit (.cancelSelect number code) s

/-- The SELECT frame of a command. -/
def isSelectOf (c : Cmd) (number : Nat) (f : OutFrame) : Bool := f.dest == c.unit && f.body == .select number c.action c.code

/-- The OPERATE frame of a command. -/
def isOperateOf (c : Cmd) (number : Nat) (f : OutFrame) : Bool := f.dest == c.unit && f.body == .operate number c.code

/-- A command is cancelled: one in flight has its frames withdrawn, SELECT and OPERATE, and CANCEL_SELECT posted when its SELECT has left
the queue, which is to say that it has been delivered (R103, R104). A SELECT may still be queued for a SELECTED command, when the unit has
echoed a try that another unit marked; it goes before the OPERATE, so that then neither has been delivered. -/
def cancelCmd (c : Cmd) (s : State) : State :=
  let t := endCmd c .cancelled s
  let number := s.breakerNumber c.breaker
  if c.inFlight then
    let (w, u) := withdrawFrame (isSelectOf c number) t
    let v := (withdrawFrame (isOperateOf c number) u).2
    if w = .notFound then cancelSelect c.unit number c.code v else v
  else t

def State.openCmd? (s : State) (b : Nat) : Option Cmd := s.tpc.queue.find? fun c => c.breaker == b && c.action == .opening
def State.closeCmd? (s : State) (b : Nat) : Option Cmd := s.tpc.queue.find? fun c => c.breaker == b && c.action == .closing

/-- Cancel a breaker's CLOSE, queued or in flight (R103). -/
def cancelClose (b : Nat) (s : State) : State :=
  match s.closeCmd? b with
  | some c => cancelCmd c s
  | none => s

/-- Cancel every CLOSE for a breaker that feeds a section and that a test picks (R103, R117). -/
def cancelCloses (x : Nat) (p : Cmd → Bool) (s : State) : State :=
  forEach (s.desc.breakersFeeding x)
    (fun b t =>
      match t.closeCmd? b with
      | some c => if p c then cancelCmd c t else t
      | none => t) s

/-! ### Placing breaker commands (R103) -/

/-- The queue has a free place (R103). -/
def State.cmdRoom (s : State) : Bool := decide (s.tpc.queue.length < 16)

/-- A command takes the last place of the queue. -/
def pushCmd (b : Nat) (a : Action) (origin : CmdOrigin) (s : State) : State :=
  let c : Cmd :=
    { breaker := b, unit := s.desc.breakerUnit b, action := a, origin := origin, phase := .queued, code := 0, window := none }
  { s with tpc.queue := s.tpc.queue ++ [c] }

/-- Owed opens take the free places, in ascending breaker index (R103). -/
def placeOwed (s : State) : State :=
  forEach (s.tpc.breakers.filterMap fun r => r.owed.map fun o => (r.index, o))
    (fun q t => if t.cmdRoom then pushCmd q.1 .opening q.2 (t.modBrk q.1 fun r => { r with owed := none }) else t) s

/-- A command starts: it takes the next selection code, becomes SELECTING, and SELECT is posted (R104). -/
def startCmd (c : Cmd) (s : State) : State :=
  let code := s.tpc.nextCode
  let d := { c with phase := .selecting, code := code }
  let t := { (s.modCmd c fun _ => d) with tpc.nextCode := (code + 1) % 256 }
  match postFrame c.unit (.select (s.breakerNumber c.breaker) c.action code) t with
  | some u => u
  | none => endCmd d .failedDelivery t

/-- The first QUEUED command of a unit that may start (R103). -/
def State.startable? (s : State) : Option Cmd :=
  s.tpc.queue.find? fun c =>
    c.phase == .queued && !(s.tpc.queue.any fun d => d.unit == c.unit && d.inFlight) &&
      (s.tpc.queue.find? fun d => d.unit == c.unit && d.phase == .queued) == some c && !s.brkMoving c.breaker

/-- The next thing the queue itself calls for: the owed opens take a free place, and then the first command that may starts (R103). -/
def queueMove? (s : State) : Option State :=
  if s.cmdRoom && s.tpc.breakers.any (·.owed.isSome) then some (placeOwed s) else s.startable?.map fun c => startCmd c s

/-- The commands that may start do so at once, in the queue's order (R103; log 10). The number bounds the starts that sixteen places
and the owed opens can hold. -/
def startCommands (s : State) : State := repeatWhile queueMove? 256 s

/-- An OPEN for the breaker is in the queue, or owed (R103). -/
def State.openComing (s : State) (b : Nat) : Bool := (s.openCmd? b).isSome || ((s.brk? b).bind (·.owed)).isSome

/-- Place an OPEN; whatever may start then starts at once, so that its SELECT is posted before anything later in the step posts a
frame (R103, R104; log 10). -/
def placeOpen (b : Nat) (origin : CmdOrigin) (s : State) : State :=
  if s.openComing b then s
  else
    let t := placeOwed (cancelClose b s)
    startCommands (if t.cmdRoom then pushCmd b .opening origin t else t.modBrk b fun r => { r with owed := some origin })

/-- The feeders and ties of a section that are not OPEN, ascending (R116, R118, R124). -/
def State.notOpen (s : State) (x : Nat) : List Nat := (s.desc.breakersOf x).filter fun b => !s.brkOpen b

/-- Place an OPEN for each feeder and tie of a section that is not OPEN. -/
def placeOpens (x : Nat) (origin : CmdOrigin) (s : State) : State :=
  forEach (s.notOpen x) (fun b t => placeOpen b origin t) s

/-! ### Lockout and sequences: leaving them (R108, R113) -/

/-- The lockout becomes NO and the reclose expiry absent (R108). -/
def clearLockout (x : Nat) (s : State) : State :=
  match s.sec? x with
  | none => s
  | some r =>
    let t := s.modSec x fun r => { r with lockout := false, reclose := none }
    if r.lockout then t.sectionNotice x else t

/-- A sequence entry is removed with its outcome (R113, R114). -/
def removeSeq (x : Nat) (o : SeqOutcome) (s : State) : State :=
  (s.modSec x fun r => { r with seq := none, lastSeq := some o }).sectionNotice x

/-- A sequence is abandoned, WAITING or RUNNING: its CLOSE ends CANCELLED, and a RECLOSE sequence makes the span absent (R108,
R113). -/
def abandonSeq (x : Nat) (s : State) : State :=
  match (s.sec? x).bind (·.seq) with
  | none => s
  | some e =>
    let t := removeSeq x .abandoned s
    let u := if e.origin == .reclose then t.modSec x fun r => { r with span := none } else t
    match e.running with
    | some (.command b) => cancelClose b u
    | _ => u

/-- The section has a WAITING entry. -/
def State.seqWaiting (s : State) (x : Nat) : Bool :=
  match (s.sec? x).bind (·.seq) with
  | some e => e.running.isNone
  | none => false

/-! ### The state of a section (R99, R102, R103, R117) -/

/-- The section leaves ENERGISED: POWER holds on the platforms ahead, and the hand closes for its breakers end (R102, R117). -/
def leaveSupply (x : Nat) (s : State) : State :=
  cancelCloses x (fun c => c.origin == .operator)
    (forEach (s.desc.platformsInto x) (fun p t => addPlatformHold p (.power x) t) s)

/-- The section enters ENERGISED: the POWER holds are removed and its departures offered (R102). -/
def enterSupply (x : Nat) (s : State) : State :=
  reoffer x (forEach (s.desc.platformsInto x) (fun p t => removePlatformHold p (.power x) t) s)

/-- Apply a test's operation. -/
def when (b : Bool) (f : State → State) (s : State) : State := if b then f s else s

/-- A section takes another state, with its notice and all that R102, R103, R108, R113 and R117 attach to the change. The survey readiness
is computed after the notice where the section becomes UNKNOWN or is so no longer (R175; log 76). A command that a cancelled CLOSE of its
unit held back starts at once (R103; log 10). -/
def changeSection (x : Nat) (new : SectionState) (s : State) : State :=
  match s.sec? x with
  | none => s
  | some r =>
    if r.state == new then s
    else
      let tripped := r.state == .tripped
      let put : SecRec → SecRec := fun r =>
        { r with state := new, lockout := r.lockout && !tripped, reclose := if tripped then none else r.reclose }
      let s1 := when ((r.state == .unknown) != (new == .unknown)) State.updateReadiness ((s.modSec x put).sectionNotice x)
      let s2 := when (new == .unknown && s1.seqWaiting x) (abandonSeq x) s1
      let s3 := when (r.state == .energised) (leaveSupply x) s2
      let s4 := startCommands (when (new == .held || new == .isolating) (cancelCloses x fun _ => true) s3)
      let s5 := when ((r.state == .held) != (new == .held)) State.reportHeld s4
      when (new == .energised) (enterSupply x) s5

/-! ### De-energising and the night hold (R116, R118) -/

/-- De-energise a section (R116). -/
def deenergiseNow (x : Nat) (s : State) : State :=
  changeSection x .dead (placeOpens x .deenergise (clearLockout x (abandonSeq x s)))

/-- The states in which DEENERGISE and the night hold act on a section (R116, R118). -/
def inReach : SectionState → Bool
  | .isolating => false
  | .isolated => false
  | .held => false
  | _ => true

/-- An incident's de-energise claim is recorded, and acts as DEENERGISE where it may (R116). -/
def claimDeenergise (id x : Nat) (s : State) : State :=
  match s.sec? x with
  | none => s
  | some r =>
    let t := s.modSec x fun r => { r with claims := if r.claims.contains id then r.claims else r.claims ++ [id] }
    if inReach r.state then deenergiseNow x t else t

/-- An incident's claim leaves a section (R116). -/
def dropClaim (id x : Nat) (s : State) : State :=
  s.modSec x fun r => { r with claims := r.claims.filter (· != id) }

/-- An incident's claims leave every section (R116, R146). -/
def dropClaims (id : Nat) (s : State) : State := forEach (s.tpc.sections.map (·.index)) (dropClaim id) s

/-- A section becomes HELD (R118). -/
def holdSection (x : Nat) (s : State) : State :=
  changeSection x .held (placeOpens x .nightHold (clearLockout x (abandonSeq x s)))

/-- A section's keep-live field (R6). -/
def State.keepLive (s : State) (x : Nat) : Bool := ((s.desc.section? x).map (·.keepLive)).getD false

/-- Entry to NIGHT_HELD: every section that is not keep-live, in ascending index, by its state (R118). -/
def nightHold (s : State) : State :=
  forEach (s.tpc.sections.map (·.index))
    (fun x t => if !t.keepLive x && ((t.secState? x).map inReach).getD false then holdSection x t else t) s

/-! ### Permits (R121, R127, R128) -/

/-- Change a permit's state, with its PERMIT notice (R121, R132). -/
def setPermit (id : Nat) (f : Permit → Permit) (s : State) : State := (s.modPermit id f).permitNotice id

/-- A permit ends (R121). -/
def endPermit (id : Nat) (o : PermitOutcome) (s : State) : State :=
  setPermit id (fun p => { p with state := .ended, outcome := some o, ended := some s.lmc.lineTime }) s

/-- A permit has ended: a section left with no open permit takes its state (R128). -/
def afterPermit (x : Nat) (s : State) : State :=
  match s.secState? x with
  | none => s
  | some st =>
    if s.permitOpen x || st == .held then s
    else if s.lmc.mode == .nightHeld && !s.keepLive x then
      placeOpens x .nightHold (changeSection x .held s)
    else changeSection x .dead s

/-- A permit enters RECORDING, and its write is placed (R127). -/
def recordPermit (p : Permit) (s : State) : State :=
  let t := setPermit p.id (fun q => { q with state := .recording, store := .writing }) s
  t.placePermitOp (.permitWrite { place := p.place, id := p.id, sec := p.sec, holder := p.holder, requested := p.requested })

/-! ### Isolations (R123 to R125) -/

/-- An isolation is removed. -/
def State.dropIsolation (x : Nat) (s : State) : State :=
  { s with tpc.isolations := s.tpc.isolations.filter (·.sec != x) }

/-- A permit that an isolation works for. -/
def Permit.isolated (p : Permit) : Bool := p.state == .requested || p.state == .isolating

/-- An isolation fails: its permits end with its outcome, and the section takes its state (R125). -/
def failIsolation (x : Nat) (o : PermitOutcome) (s : State) : State :=
  match s.isolation? x with
  | none => s
  | some _ =>
    let ids := ((s.openPermits x).filter Permit.isolated).map (·.id)
    afterPermit x (forEach ids (fun id t => endPermit id o t) (s.dropIsolation x))

/-- An isolation succeeds: its permits enter RECORDING in ascending place (R125). -/
def succeedIsolation (x : Nat) (s : State) : State :=
  forEach ((s.openPermits x).filter fun p => p.state == .isolating) recordPermit (s.dropIsolation x)

/-- The trains with head or tail in a section and the unidentified occupancies there: what keeps a section from being clear (R122,
R123). -/
def State.trainsIn (s : State) (x : Nat) : List Train :=
  s.trk.trains.filter fun t =>
    s.desc.sectionOf? t.head == some x || (t.tail.bind s.desc.sectionOf?) == some x

def State.unidentifiedIn (s : State) (x : Nat) : List Nat :=
  (s.desc.segmentsIn x).filter fun g => s.occ g == .unidentified

/-- The section is clear (R123). -/
def State.sectionClear (s : State) (x : Nat) : Bool :=
  !(s.tpc.grants.any (·.sec == x)) && (s.trainsIn x).isEmpty && (s.unidentifiedIn x).isEmpty

/-- CLEARING ends: the permits become ISOLATING and OPEN is placed for each breaker that is not OPEN (R123, R124). -/
def enterOpening (x : Nat) (s : State) : State :=
  let ids := ((s.openPermits x).filter fun p => p.state == .requested).map (·.id)
  let waiting := s.notOpen x
  let t := forEach ids (fun id u => setPermit id (fun p => { p with state := .isolating }) u) s
  placeOpens x .isolation (t.modIsolation x fun i => { i with phase := .opening waiting })

/-- The test of CLEARING at a report of the TRK: each isolation whose section is clear enters OPENING, in ascending section (R123). -/
def testClearing (s : State) : State :=
  forEach ((s.tpc.isolations.filter (·.phase == .clearing)).map (·.sec))
    (fun x t => if t.sectionClear x then enterOpening x t else t) s

/-- The next move of an isolation that its condition calls for (R123 to R125). -/
def isolationMove? (s : State) (i : Isolation) : Option State :=
  match i.phase with
  | .clearing => if s.sectionClear i.sec then some (enterOpening i.sec s) else none
  | .opening waiting =>
    if waiting.isEmpty then some (s.modIsolation i.sec fun j => { j with phase := .confirming (s.now + 10) }) else none
  | .confirming _ => if s.voltage i.sec == .absent then some (succeedIsolation i.sec s) else none

/-- The isolations of some sections fail with the outcome of a breaker's command (R124). -/
def failWaiting (xs : List Nat) (b : Nat) (o : CmdOutcome) (s : State) : State :=
  forEach xs (fun x t => failIsolation x (.failedBreaker b o) t) s

/-! ### Energise sequences (R113, R114) -/

/-- Place a WAITING entry (R113). -/
def placeSeq (x : Nat) (o : SeqOrigin) (s : State) : State :=
  s.modSec x fun r => { r with seq := some { origin := o, running := none, closed := [] } }

/-- A running sequence stands at a step. -/
def setStep (x : Nat) (st : SeqStep) (s : State) : State :=
  s.modSec x fun r => { r with seq := r.seq.map fun e => { e with running := some st } }

/-- A sequence fails: an OPEN for each feeder it closed, and the section is DEAD, or UNKNOWN if its voltage is (R114). -/
def failSeq (x : Nat) (o : SeqOutcome) (s : State) : State :=
  match (s.sec? x).bind (·.seq) with
  | none => s
  | some e =>
    let t := forEach e.closed (fun b u => placeOpen b .sequence u) s
    let u := changeSection x (if s.voltage x == .unknown then .unknown else .dead) t
    removeSeq x o (u.modSec x fun r => { r with span := none })

/-- A sequence succeeds: the section becomes ENERGISED (R114). -/
def succeedSeq (x : Nat) (s : State) : State := removeSeq x .done (changeSection x .energised s)

/-- A sequence takes the feeders after the one given: the first that is not CLOSED, or the voltage after the last (R114). -/
def advanceSeq (x : Nat) (after : Option Nat) (s : State) : State :=
  let rest := (s.desc.feedersOf x).filter fun b => (after.map fun a => decide (a < b)).getD true
  match rest.find? fun b => s.brkState? b != some .closed with
  | some b => setStep x (.placing b) s
  | none => setStep x (.confirm (s.now + 10)) s

/-- The running sequences, ascending section. -/
def State.runningSeqs (s : State) : List (Nat × SeqStep) :=
  s.tpc.sections.filterMap fun r => (r.seq.bind (·.running)).map fun st => (r.index, st)

/-- A CLOSE for a breaker may be placed: the mode is not SURVEY, and no section it feeds is HELD or has an open permit (R103). -/
def State.mayClose (s : State) (b : Nat) : Bool :=
  s.lmc.mode != .survey && (s.desc.sectionsFed b).all fun x => s.secState? x != some .held && !s.permitOpen x

/-- The next move of a running sequence (R114). -/
def seqMove? (s : State) (q : Nat × SeqStep) : Option State :=
  match q.2 with
  | .next after => some (advanceSeq q.1 after s)
  | .placing b =>
    if s.cmdRoom && s.mayClose b then some (setStep q.1 (.command b) (pushCmd b .closing .sequence s)) else none
  | .command _ => none
  | .confirm _ => if s.voltage q.1 == .present then some (succeedSeq q.1 s) else none

/-- The WAITING entry of the lowest section index, while fewer than two run (R113). -/
def State.nextSeq? (s : State) : Option SecRec :=
  if s.runningSeqs.length < 2 then s.tpc.sections.find? fun r => (r.seq.map (·.running.isNone)).getD false else none

/-- An entry starts: the section becomes ENERGISING, and a RECLOSE entry starts the lockout span (R113). -/
def startSeq (r : SecRec) (s : State) : State :=
  let reclose := (r.seq.map (·.origin)) == some .reclose
  let t := setStep r.index (.next none) s
  let u := when reclose (State.modSec r.index fun r => { r with span := some (s.now + 60) }) t
  changeSection r.index .energising (u.modSec r.index fun r => { r with reclose := none })

/-- A command's end reaches its origin: the sequence that waits for that CLOSE, and every isolation that waited on the breaker when the
command ended (R103, R114, R124). While the CLOSE that the sequence waits for is still in the queue, a CLOSE of origin SEQUENCE that ends for the same
breaker is one that an abandoned sequence left MOVING, and it is no outcome of this sequence. -/
def takeReport (r : Report) (s : State) : State :=
  let seq := s.runningSeqs.find? fun q => q.2 == .command r.breaker
  let t :=
    match seq with
    | some (x, _) =>
      if r.origin == .sequence && r.action == .closing && (s.closeCmd? r.breaker).isNone then
        if r.outcome == .done then
          let add : SeqEntry → SeqEntry := fun e => { e with closed := e.closed ++ [r.breaker] }
          setStep x (.next (some r.breaker)) (s.modSec x fun q => { q with seq := q.seq.map add })
        else failSeq x (.failedBreaker r.breaker r.outcome) s
      else s
    | none => s
  if r.outcome == .done then t else failWaiting r.waiting r.breaker r.outcome t

/-! ### What one event leaves to be settled (log 10) -/

/-- The first thing left to do, in this order: a report to hand on, owed opens, running sequences in ascending section, commands to
start, a sequence to start, isolations to move. -/
def tpcMove? (s : State) : Option State :=
  match s.tpc.reports with
  | r :: l => some (takeReport r { s with tpc.reports := l })
  | [] =>
    if s.cmdRoom && s.tpc.breakers.any (·.owed.isSome) then some (placeOwed s)
    else
      ((s.runningSeqs.findSome? (seqMove? s)).orElse fun _ =>
        (s.startable?.map fun c => startCmd c s).orElse fun _ =>
          (s.nextSeq?.map fun r => startSeq r s).orElse fun _ => s.tpc.isolations.findSome? (isolationMove? s))

/-- The consequences inside the traction power controller are all taken. The number bounds what the tables can hold: 16 commands, 24
sequences of three feeders, 24 isolations. -/
def tpcSettle (s : State) : State := repeatWhile tpcMove? 2048 s

/-- The end of a step that may have set off work elsewhere: the power controller's consequences (log 10), the POLL frames owed (R28),
the store's next operation (R61, R70) and the survey readiness (R175). -/
def State.conclude (s : State) : State := (tpcSettle s).polls.storeNext.updateReadiness

end Sys2Proof.Machine
end

