-- ==== Sys2Proof/Machine/Mode.lean ====
section
/-!
DEFINITION. The change of line mode with what each block does at it (R166, R167), the stall timers it starts and stops (R53), demotion
(R169) and an incident's escalation request (R170).
-/

namespace Sys2Proof.Machine

/-! ### Stall timers (R53) -/

/-- The train's stall timer runs by its state, its head and the line mode (R53). -/
def State.stallRuns (s : State) (t : Train) : Bool :=
  (t.state == .inService || t.state == .positioning) && (s.desc.platformOf? t.head).isNone && isPassenger s.lmc.mode

/-- Start a train's stall timer from the count, or stop it (R53). -/
def restartStall (n : Nat) (s : State) : State :=
  s.modTrain n fun t => { t with stallBase := if s.stallRuns t then some s.now else none }

/-- Stop the stall timers whose conditions have ceased to hold (R53). -/
def stopStalls (s : State) : State :=
  { s with trk.trains := s.trk.trains.map fun t => if s.stallRuns t then t else { t with stallBase := none } }

/-- The report of a mode change to the TRK (R53, R167). -/
def trackMode (old new : Mode) (s : State) : State :=
  if !isPassenger old && isPassenger new then forEach (s.trk.trains.map (·.number)) restartStall s else stopStalls s

/-! ### The change of mode (R167) -/

/-- Every SPENT pattern entry becomes READY (R38). -/
def readyPatterns (s : State) : State :=
  { s with wlc.patterns := s.wlc.patterns.map fun p => { p with spent := false } }

/-- The mode changes: the record of it, the MODE notice, and the reports to the SRG, the TPC, the TRK, the WLC and the ANS (R167). -/
def modeChange (new : Mode) (cause : ModeCause) (incident : Option Nat) (s : State) : State :=
  let old := s.lmc.mode
  let change : ModeChange := { old := some old, new := new, cause := cause, time := s.lmc.lineTime, incident := incident }
  let readiness := if new = Mode.survey then s.lmc.readiness else none
  let s0 := { s with lmc.mode := new, lmc.lastChange := change, lmc.readiness := readiness }
  let s1 := regulateMode old new s0.modeNotice
  let s2 := when (new == .nightHeld) nightHold s1
  let s3 := trackMode old new s2
  let s4 := when (isNight old && !isNight new) readyPatterns s3
  announceMode s4

/-! ### Demotion and escalation (R169, R170) -/

def Incident.isOpen (i : Incident) : Bool := i.phase != .closed

/-- The trains in a state. -/
def State.trainsInState (s : State) (st : TrainState) : List Train := s.trk.trains.filter (·.state == st)

/-- The open incidents of severity 3 or 4 (R169, R178). -/
def State.seriousIncidents (s : State) : List Incident :=
  s.inm.incidents.filter fun i => i.isOpen && decide (3 ≤ i.severity)

/-- The demotion causes that hold (R169). -/
def State.demotions (s : State) : List String :=
  (if (s.trainsInState .positioning).isEmpty then [] else ["TRAINS_POSITIONING"]) ++
    (if (s.trainsInState .lost).isEmpty then [] else ["TRAINS_LOST"]) ++
    (if s.seriousIncidents.isEmpty then [] else ["INCIDENTS_OPEN"])

/-- The target after the test for demotion (R169). -/
def State.demoted (s : State) (target : Mode) : Mode :=
  if target == .nightHeld && !s.demotions.isEmpty then .nightLive else target

/-- An incident's escalation request (R170). -/
def escalate (id : Nat) (s : State) : State :=
  match s.lmc.mode with
  | .nightHeld => modeChange .nightLive .escalate (some id) s
  | .reduced => if s.lmc.escalation then modeChange .traffic .escalate (some id) s else s
  | _ => s

end Sys2Proof.Machine
end

