-- ==== Sys2Proof/Machine/Incident.lean ====
section
/-!
DEFINITION. The incident manager's operations: what a location resolves to (R135), raises and drops (R136, R137), the response and its
links (R141 to R143), and closing (R146, R147).
-/

namespace Sys2Proof.Machine

/-! ### Locations (R135) -/

/-- The first platform segment met from a segment along a relation, and its platform; a walk ends at a segment already visited
(R135). -/
def firstPlatform (d : Description) (next : Nat → Option Nat) : Nat → List Nat → Nat → Option Nat
  | 0, _, _ => none
  | fuel + 1, seen, cur =>
    match next cur with
    | none => none
    | some g =>
      if seen.contains g then none
      else match d.platformOf? g with
        | some p => some p
        | none => firstPlatform d next fuel (g :: seen) g

/-- The stations of a segment: that of its platform, or those of the first platform segments either side (R135). -/
def segmentStations (d : Description) (g : Nat) : List Nat :=
  match d.platformOf? g with
  | some p => [platformStation p]
  | none =>
    let fuel := d.segments.length
    let ahead := firstPlatform d (fun i => (d.segment? i).bind (·.successor)) fuel [g] g
    let behind := firstPlatform d d.predecessor? fuel [g] g
    ascending ((ahead.toList ++ behind.toList).map platformStation)

/-- The platform segments of a station, ascending. -/
def stationSegments (d : Description) (st : Nat) : List Nat :=
  (d.segments.filter fun g => (g.platform.map platformStation) == some st).map (·.index)

/-- The segments of a section whose predecessor is absent or outside it (R135). -/
def sectionEntries (d : Description) (x : Nat) : List Nat :=
  (d.segmentsIn x).filter fun g => ((d.predecessor? g).bind d.sectionOf?) != some x

/-- The stations that have a platform segment in a section. -/
def sectionStations (d : Description) (x : Nat) : List Nat :=
  ascending ((d.segmentsIn x).filterMap fun g => (d.platformOf? g).map platformStation)

/-- The four sets a location resolves into, each ascending; the segments whose head trains are in place stand for the third
(R135). -/
structure Reach where
  starts : List Nat
  sections : List Nat
  heads : List Nat
  stations : List Nat
deriving DecidableEq, Repr

/-- Four empty sets. -/
def Reach.empty : Reach := { starts := [], sections := [], heads := [], stations := [] }

/-- A location that is a set of segments (R135). -/
def reachSegments (d : Description) (gs : List Nat) (stations : List Nat) : Reach :=
  { starts := gs, sections := ascending (gs.filterMap d.sectionOf?), heads := gs, stations := ascending stations }

/-- A location that is a set of sections (R135). -/
def reachSections (d : Description) (xs : List Nat) : Reach :=
  { starts := ascending (xs.flatMap (sectionEntries d)), sections := xs, heads := ascending (xs.flatMap d.segmentsIn),
    stations := ascending (xs.flatMap (sectionStations d)) }

/-- A location that is a station (R135). -/
def reachStation (d : Description) (st : Nat) : Reach :=
  if (d.station? st).isSome then reachSegments d (stationSegments d st) [st] else Reach.empty

/-- What a location resolves to in the working description (R135). -/
def resolve (d : Description) : Location → Reach
  | .segment g => if (d.segment? g).isSome then reachSegments d [g] (segmentStations d g) else Reach.empty
  | .station st => reachStation d st
  | .powerSection x => if (d.section? x).isSome then reachSections d [x] else Reach.empty
  | .unit a =>
    match d.unit? a with
    | none => Reach.empty
    | some u =>
      match u.kind with
      | .station =>
        match d.unitStation? a with
        | some st => reachStation d st
        | none => Reach.empty
      | .track => reachSegments d (d.unitSegments a) ((d.unitSegments a).flatMap (segmentStations d))
      | .power => reachSections d (d.unitSections a)
  | .line => Reach.empty

/-- The in-place trains, LOST ones included, ascending (R135). -/
def State.inPlace (s : State) (r : Reach) : List Nat :=
  ascending ((s.trk.trains.filter fun t => r.heads.contains t.head).map (·.number))

/-- The location's object is in the working description; LINE always qualifies (R35, R144). -/
def locationKnown (d : Description) : Location → Bool
  | .segment g => (d.segment? g).isSome
  | .station st => (d.station? st).isSome
  | .powerSection x => (d.section? x).isSome
  | .unit a => (d.unit? a).isSome
  | .line => true

/-- The upstream walk from a segment: the platforms met until `n` distinct stations, a line end or a segment visited (R141). -/
def upstream (d : Description) : Nat → List Nat → List Nat → Nat → Nat → List Nat
  | 0, _, _, _, _ => []
  | fuel + 1, seen, stations, n, cur =>
    match d.predecessor? cur with
    | none => []
    | some g =>
      if seen.contains g then []
      else
        match d.platformOf? g with
        | none => upstream d fuel (g :: seen) stations n g
        | some p =>
          let met := if stations.contains (platformStation p) then stations else platformStation p :: stations
          p :: (if n ≤ met.length then [] else upstream d fuel (g :: seen) met n g)

/-- The platforms of an upstream hold, ascending (R141). -/
def upstreamPlatforms (d : Description) (n : Nat) (r : Reach) : List Nat :=
  if n = 0 then []
  else ascending ((r.starts.flatMap (upstream d d.segments.length [] [] n)) ++ r.sections.flatMap d.platformsInto)

/-! ### Notices and links (R142, R183) -/

/-- An INCIDENT notice: id, class, severity and phase (R183). -/
def State.incidentNotice (id : Nat) (s : State) : State :=
  match s.incident? id with
  | some i =>
    s.notice .incident [fld "id" (vNum id), fld "class" (vWord (classWord i.cls)), fld "severity" (vNum i.severity),
      fld "phase" (vWord (phaseWord i.phase))]
  | none => s.notice .incident [fld "id" (vNum id)]

/-- A link is recorded once; when the list holds eight, the unlinked actions count rises (R142). -/
def addLink (l : IncLink) (i : Incident) : Incident :=
  if i.links.contains l then i
  else if i.links.length < 8 then { i with links := i.links ++ [l] }
  else { i with unlinked := saturate 255 i.unlinked }

/-- Take an action and record its link. -/
def linked (id : Nat) (l : IncLink) (act : State → State) (s : State) : State := (act s).modIncident id (addLink l)

/-! ### Applying a response (R141, R143) -/

/-- The scope of an incident's announcement (R143). -/
def incidentScope (s : State) (r : Reach) (rule : ScopeRule) : List Nat :=
  let line := s.desc.stations.map (·.index)
  match rule with
  | .line => line
  | .location => if r.stations.isEmpty then line else r.stations

/-- The announcement of a response (R143). -/
def incidentPost (s : State) (i : Incident) (e : Response) (template : Nat) (r : Reach) : Post :=
  { template := template, station := r.stations.head?, minutes := none, platform := none, train := (s.inPlace r).head?,
    priority := e.priority, scope := incidentScope s r e.scope, origin := .incident i.id, rep := .continuous,
    interval := some 120, expiryAfter := none, display := true }

/-- The entry ids of an incident's ANNOUNCE links. -/
def announceLinks (l : List IncLink) : List Nat :=
  l.filterMap fun k => match k with
    | .announce e => some e
    | _ => none

/-- Withdraw an entry if its origin is the incident (R141, R148). -/
def withdrawOf (id e : Nat) (s : State) : State :=
  match s.entry? e with
  | some n => if n.origin == .incident id then withdrawEntry e .withdrawn s else s
  | none => s

/-- Step 4 of R141: the linked announcements are withdrawn and their links removed, and a new entry is posted. -/
def announceIncident (i : Incident) (e : Response) (template : Nat) (r : Reach) (s : State) : State :=
  let links := announceLinks (((s.incident? i.id).map (·.links)).getD [])
  let t := forEach links (fun n u => withdrawOf i.id n u) s
  let u := t.modIncident i.id fun j => { j with links := j.links.filter fun k => !(links.map IncLink.announce).contains k }
  match internalPost (incidentPost u i e template r) u with
  | (some n, v) => v.modIncident i.id (addLink (.announce n))
  | (none, v) => v

/-- Apply the response for an incident's class and severity (R141). -/
def applyResponse (id : Nat) (s : State) : State :=
  match s.incident? id with
  | none => s
  | some i =>
    let e := responseEntry s.inm.responses i.cls i.severity
    let r := resolve s.desc i.location
    let trains := s.inPlace r
    let s1 := when (i.phase != .contained)
      (forEach (upstreamPlatforms s.desc e.upstream r) fun p => linked id (.holdPlatform p) (addPlatformHold p (.incident id))) s
    let s2 := when e.inPlace (forEach trains fun n => linked id (.holdTrain n) (addTrainHold n (.incident id))) s1
    let s3 := when e.deenergise (forEach r.sections fun x => linked id (.deenergise x) (claimDeenergise id x)) s2
    let s4 := match e.template with
      | some n => announceIncident i e n r s3
      | none => s3
    when e.escalate (linked id .escalate (escalate id)) s4

/-! ### Raising (R134, R136, R137) -/

/-- The escalation period of a class (R134). -/
def Periods.get (p : Periods) : IncClass → Nat
  | .trainStopped => p.trainStopped
  | .powerTrip => p.powerTrip
  | .powerDiscrepancy => p.powerDiscrepancy
  | .passengerAlarm => p.passengerAlarm
  | .platformFault => p.platformFault
  | .obstruction => p.obstruction
  | .fieldSilence => p.fieldSilence
  | .trackDiscrepancy => p.trackDiscrepancy
  | .operator => p.operator

/-- Set the escalation period of a class (R134). -/
def Periods.put (p : Periods) (c : IncClass) (n : Nat) : Periods :=
  match c with
  | .trainStopped => { p with trainStopped := n }
  | .powerTrip => { p with powerTrip := n }
  | .powerDiscrepancy => { p with powerDiscrepancy := n }
  | .passengerAlarm => { p with passengerAlarm := n }
  | .platformFault => { p with platformFault := n }
  | .obstruction => { p with obstruction := n }
  | .fieldSilence => { p with fieldSilence := n }
  | .trackDiscrepancy => { p with trackDiscrepancy := n }
  | .operator => { p with operator := n }

/-- What became of a raise (R136, R137, R144). -/
inductive Raised where
  | made (id : Nat)
  | repeated (id : Nat)
  | dropped
deriving DecidableEq, Repr

/-- The open incident of a class and location (R136). -/
def State.openIncident? (s : State) (c : IncClass) (l : Location) : Option Incident :=
  s.inm.incidents.find? fun i => i.isOpen && i.cls == c && i.location == l

/-- The expiry of an escalation timer started now (R134, R138). -/
def State.escalationFrom (s : State) (c : IncClass) : Nat := s.now + s.inm.periods.get c

/-- A raise that repeats an open incident (R136). The notice is sent before the response is applied (log 74). -/
def repeatRaise (i : Incident) (severity : Nat) (s : State) : State :=
  let higher := decide (i.severity < severity)
  let seen : Incident → Incident := fun j => { j with count := saturate 255 j.count, lastAt := s.lmc.lineTime }
  let up : Incident → Incident := fun j =>
    { j with severity := severity, escalation := if j.phase == .raised then some (s.escalationFrom j.cls) else j.escalation }
  let t := s.modIncident i.id fun j => if higher then up (seen j) else seen j
  when higher (applyResponse i.id) (t.incidentNotice i.id)

/-- The record of a new incident (R136). -/
def newIncident (s : State) (id : Nat) (c : IncClass) (severity : Nat) (l : Location) (o : RaiseOrigin) : Incident :=
  { id := id, cls := c, severity := severity, location := l, phase := .raised, origin := o, count := 1, links := [],
    unlinked := 0, note := none, escalation := some (s.escalationFrom c), raisedAt := s.lmc.lineTime,
    lastAt := s.lmc.lineTime, ackAt := none, containedAt := none, closedAt := none, cause := none }

/-- A new record takes the next id and its place behind the others, its notice is sent, and then its response is applied (R133, R136; log
74). -/
def makeIncident (c : IncClass) (severity : Nat) (l : Location) (o : RaiseOrigin) (s : State) : Raised × State :=
  let id := nextId 65535 (s.inm.incidents.map (·.id)) s.inm.lastId
  let t := { s with inm.incidents := s.inm.incidents ++ [newIncident s id c severity l o], inm.lastId := id }
  (.made id, applyResponse id (t.incidentNotice id))

/-- A raise that finds the table full of open incidents is dropped (R137). -/
def dropRaise (c : IncClass) (l : Location) (s : State) : State :=
  let t := { s with inm.drops := saturate 65535 s.inm.drops,
                    inm.lastDrop := some { cls := c, location := l, time := s.lmc.lineTime } }
  t.notice .incident
    [fld "event" (vWord "DROPPED"), fld "class" (vWord (classWord c)), fld "location" (.one (locationAtom l))]

/-- The INM takes a raise (R136, R137). -/
def raiseIncident (c : IncClass) (severity : Nat) (l : Location) (o : RaiseOrigin) (s : State) : Raised × State :=
  match s.openIncident? c l with
  | some i => (.repeated i.id, repeatRaise i severity s)
  | none =>
    if s.inm.incidents.length < 32 then makeIncident c severity l o s
    else
      match s.inm.incidents.find? (·.phase == .closed) with
      | some old =>
        makeIncident c severity l o { s with inm.incidents := s.inm.incidents.filter (·.id != old.id) }
      | none => (.dropped, dropRaise c l s)

/-- A raise whose answer is not used. -/
def raised (c : IncClass) (severity : Nat) (l : Location) (o : RaiseOrigin) (s : State) : State :=
  (raiseIncident c severity l o s).2

/-! ### Closing (R146, R147) -/

/-- The all-clear entry of a closing (R146). -/
def allClearPost (s : State) (i : Incident) (e : Response) : Post :=
  let r := resolve s.desc i.location
  { template := s.desc.params.allClearTemplate, station := r.stations.head?, minutes := none, platform := none,
    train := (s.inPlace r).head?, priority := .service, scope := incidentScope s r e.scope, origin := .none,
    rep := .times 1, interval := none, expiryAfter := some 300, display := false }

/-- The record of an incident as it is closed (R146). -/
def closeRecord (time : Nat) (cause : CloseCause) (i : Incident) : Incident :=
  { i with links := [], phase := .closed, closedAt := some time, cause := some cause, escalation := none }

/-- Close an incident; whether an all-clear entry was posted (R146). The notice is sent after the withdrawals and before that post (log
74). -/
def closeIncident (id : Nat) (cause : CloseCause) (s : State) : Bool × State :=
  match s.incident? id with
  | none => (false, s)
  | some i =>
    let s1 := forEach (s.trk.trains.map (·.number)) (fun n t => removeTrainHold n (.incident id) t) s
    let s2 := forEach (s1.srg.plats.map (·.index)) (fun p t => removePlatformHold p (.incident id) t) s1
    let s3 := dropClaims id s2
    let entries := (s3.ans.entries.filter (·.origin == .incident id)).map (·.id)
    let s4 := forEach entries (fun n t => withdrawEntry n .withdrawn t) s3
    let s5 := (s4.modIncident id (closeRecord s.lmc.lineTime cause)).incidentNotice id
    let e := responseEntry s.inm.responses i.cls i.severity
    if e.allClear then
      match internalPost (allClearPost s5 i e) s5 with
      | (n, t) => (n.isSome, t)
    else (false, s5)

/-- Automatic closure of a TRAIN_STOPPED or FIELD_SILENCE incident (R147). -/
def autoClose (c : IncClass) (l : Location) (s : State) : State :=
  match s.openIncident? c l with
  | some i => if i.phase == .contained then s else (closeIncident i.id .automatic s).2
  | none => s

end Sys2Proof.Machine
end

