-- ==== Sys2Proof/Machine/PowerEvents.lean ====
section
/-!
DEFINITION. What the power units report and what the traction power controller's timers do: POWER_STATUS in its four passes (R100,
R101, R105, R107), silent power units (R106), the select and operate exchange (R104, R105), and the expiries of R108, R112 and R125.
-/

namespace Sys2Proof.Machine

/-- Hand the ends of commands on to their origins, in order (R103): at once, in the middle of a step (log 70). -/
def takeReports (s : State) : State := forEach s.tpc.reports takeReport { s with tpc.reports := [] }

/-- A raise of the TPC (R101). -/
def powerRaise (c : IncClass) (severity x : Nat) (s : State) : State := raised c severity (.powerSection x) .power s

/-! ### Reassessment of a section (R101) -/

/-- What the breakers of a section draw that a unit has reported CLOSED (R101). Which they are is settled before the first raise (log
72). -/
def correct (x : Nat) (closed : List Nat) (s : State) : State :=
  forEach ((s.desc.breakersOf x).filter fun b => closed.contains b && !s.brkMoving b && !(s.tpc.queue.any (·.breaker == b)))
    (fun b t => powerRaise .powerDiscrepancy 3 x (placeOpen b .correction t)) s

/-- A section acts on its voltage and on the breakers reported CLOSED, by the state it had (R101). -/
def actOnVoltage (x : Nat) (was : SectionState) (old new : Voltage) (closed : List Nat) (s : State) : State :=
  match was with
  | .unknown =>
    match new with
    | .present => changeSection x .energised s
    | .absent => changeSection x .dead s
    | .unknown => s
  | .energised =>
    match new with
    | .present => s
    | .absent => powerRaise .powerDiscrepancy 2 x (changeSection x .dead s)
    | .unknown => changeSection x .unknown s
  | .tripped => if new == .unknown then changeSection x .unknown s else s
  | .energising => s
  | .isolating => s
  | _ =>
    let s1 := if was == .dead && new == .unknown then changeSection x .unknown s else s
    let s2 := if old != .present && new == .present then powerRaise .powerDiscrepancy 3 x s1 else s1
    correct x closed s2

/-- Derive a section's voltage again, and act (R101). -/
def reassess (closed : List Nat) (x : Nat) (s : State) : State :=
  match s.sec? x with
  | none => s
  | some r =>
    let new := s.derivedVoltage x
    actOnVoltage x r.state r.voltage new closed (s.modSec x fun r => { r with voltage := new })

/-! ### Trips (R107, R108) -/

/-- The conditions of the reclose delay, besides the section's own state (R108). -/
def State.recloseAllowed (s : State) (x : Nat) : Bool :=
  ((s.desc.section? x).map (·.autoReclose)).getD false && !s.permitOpen x &&
    ((s.sec? x).map (·.claims.isEmpty)).getD false && s.lmc.mode != .survey

/-- A section in supply, or coming into it, trips: the lockout rule, the reclose delay, and the incident (R107, R108). -/
def tripSection (x : Nat) (r : SecRec) (s : State) : State :=
  let running := r.span.isSome
  let reclose := if !running && s.recloseAllowed x then some (s.now + 30) else none
  let put : SecRec → SecRec := fun q => { q with lockout := running, span := if running then none else q.span, reclose := reclose }
  powerRaise .powerTrip (if running then 4 else 3) x (changeSection x .tripped (s.modSec x put))

/-- A further trip of a section that is TRIPPED (R107). -/
def tripAgain (x : Nat) (r : SecRec) (s : State) : State :=
  let t :=
    if r.span.isSome then
      (s.modSec x fun q => { q with lockout := true, span := none, reclose := none }).sectionNotice x
    else s
  powerRaise .powerTrip (if r.span.isSome || r.lockout then 4 else 3) x t

/-- A trip of a breaker (R107). -/
def takeTrip (b : Nat) (s : State) : State :=
  let t := setBreaker b .opened s
  match s.desc.breaker? b with
  | none => t
  | some d =>
    match ascending d.sections with
    | [] => t
    | x :: _ =>
      if d.kind == .tie then powerRaise .powerTrip 2 x t
      else
        match s.sec? x with
        | none => t
        | some r =>
          let u := abandonSeq x t
          match r.state with
          | .energised => tripSection x r u
          | .energising => tripSection x r u
          | .tripped => tripAgain x r u
          | .isolating => powerRaise .powerTrip 3 x u
          | _ => powerRaise .powerTrip 2 x u

/-! ### POWER_STATUS (R100, R105, R186) -/

/-- An entry of a POWER_STATUS that names a breaker of its unit. -/
structure BreakerEntry where
  breaker : Nat
  closed : Bool
  trip : Bool
  voltage : Option Bool
deriving DecidableEq, Repr

/-- The voltage bits of a FEEDER's entry; a TIE's are not read (R186). -/
def entryVoltage (k : BreakerKind) (bits : Nat) : Option Bool :=
  match k with
  | .tie => none
  | .feeder => if bits = 1 then some false else if bits = 2 then some true else none

/-- The entries of a frame in ascending breaker index; one that names no breaker of the unit, and a FEEDER's with voltage bits 3, is
ignored (R100, R186). -/
def breakerEntries (d : Description) (unit : Nat) (l : List PowerEntry) : List BreakerEntry :=
  orderBy (fun a b => decide (a.breaker < b.breaker)) (l.filterMap fun e =>
    (d.breakerOfNumber? unit e.number).bind fun b =>
      if b.kind = .feeder ∧ e.voltage = 3 then none
      else some { breaker := b.index, closed := e.closed, trip := e.trip, voltage := entryVoltage b.kind e.voltage })

def positionState : Bool → BreakerState
  | true => .closed
  | false => .opened

/-- The action whose target a position is. -/
def positionAction : Position → Action
  | .opened => .opening
  | .closed => .closing

/-- The state of a breaker was CLOSED or MOVING. -/
def wasLive (st : Option BreakerState) : Bool :=
  match st with
  | some .closed => true
  | some (.moving ..) => true
  | _ => false

/-- A MOVING breaker's result (R105). -/
def endMove (b : Nat) (target : Position) (origin : CmdOrigin) (st : BreakerState) (o : CmdOutcome) (s : State) : State :=
  reportEnd b (positionAction target) origin o (setBreaker b st s)

/-- Pass 1 for one entry (R100, R105). A close onto a fault leaves the breaker OPEN; its outcome is reported after pass 2. -/
def passBreakers (e : BreakerEntry) (s : State) : State :=
  let record : BrkRec → BrkRec := fun r =>
    { r with position := some (if e.closed then .closed else .opened), voltage := e.voltage.or r.voltage }
  let t := s.modBrk e.breaker record
  match s.brkState? e.breaker with
  | none => s
  | some (.moving target _ origin) =>
    if e.closed == (target == .closed) then endMove e.breaker target origin (positionState e.closed) .done t
    else if !e.closed && e.trip then setBreaker e.breaker .opened t
    else t
  | some _ => setBreaker e.breaker (positionState e.closed) t

/-- The isolations take the breakers reported CLOSED: one in OPENING waits on them again, one in CONFIRMING fails (R124, R125). -/
def isolationsSee (closed : List Nat) (s : State) : State :=
  forEach s.tpc.isolations
    (fun i t =>
      let hit := (t.desc.breakersOf i.sec).filter closed.contains
      match i.phase, hit with
      | .opening w, _ =>
        let back := hit.filter fun b => !w.contains b
        if back.isEmpty then t
        else
          forEach back (fun b u => placeOpen b .isolation u)
            (t.modIsolation i.sec fun j => { j with phase := .opening (ascending (w ++ back)) })
      | .confirming _, b :: _ => failIsolation i.sec (.reportedClosed b) t
      | _, _ => t) s

/-- Pass 2: the trips of the entries whose breaker was CLOSED or MOVING before the frame, and then the outcomes of closes onto a fault
(R100, R105, R107). -/
def passTrips (before : State) (l : List BreakerEntry) (s : State) : State :=
  let trips := (l.filter fun e => e.trip && wasLive (before.brkState? e.breaker)).map (·.breaker)
  let faults := l.filter fun e => e.trip && !e.closed
  let report : BreakerEntry → State → State := fun e t =>
    match before.brkState? e.breaker with
    | some (.moving .closed _ origin) => reportEnd e.breaker .closing origin .noResult t
    | _ => t
  takeReports (forEach faults report (forEach trips takeTrip s))

/-- A POWER_STATUS of a unit in its four passes (R100). The isolations see what was reported CLOSED at the end of pass 3, so a section that
one of them leaves DEAD draws a correction at the unit's next report (R125; log 10). -/
def takePowerStatus (unit : Nat) (payload : List Octet) (s : State) : State :=
  match readPowerStatus payload with
  | none => s
  | some raw =>
    let l := breakerEntries s.desc unit raw
    let closed := (l.filter (·.closed)).map (·.breaker)
    let s1 := takeReports (forEach l passBreakers s)
    let s2 := passTrips s l s1
    let s3 := isolationsSee closed (forEach (s.desc.unitSections unit) (reassess closed) s2)
    recomputeBudgets (s.desc.unitSections unit) s3

/-! ### A silent power unit (R31, R106) -/

/-- The commands and owed opens of the unit end FAILED_DELIVERY (R106, step 1). A command that has started since the frames of the unit
ended FAILED is among them, and its SELECT stays in the outbound queue (log 71). -/
def failCommands (unit : Nat) (s : State) : State :=
  let t := forEach (s.tpc.queue.filter (·.unit == unit)) (fun c u => endCmd c .failedDelivery u) s
  forEach (s.desc.unitBreakers unit)
    (fun b u =>
      match (u.brk? b).bind (·.owed) with
      | some o => reportEnd b .opening o .failedDelivery (u.modBrk b fun r => { r with owed := none })
      | none => u) t

/-- A breaker of the unit ends its result and becomes UNKNOWN (R106, step 2). -/
def loseBreaker (b : Nat) (s : State) : State :=
  let t := match s.brkState? b with
    | some (.moving target _ origin) => endMove b target origin .unknown .failedDelivery s
    | _ => s
  (setBreaker b .unknown t).modBrk b fun r => { r with position := none, voltage := none }

/-- A power unit has gone STALE (R106). -/
def stalePowerUnit (unit : Nat) (s : State) : State :=
  let breakers := s.desc.unitBreakers unit
  let s1 := takeReports (forEach breakers loseBreaker (failCommands unit s))
  let s2 := forEach breakers (fun b t => failWaiting (t.waitingOn b) b .failedDelivery t) s1
  let s3 := recomputeBudgets (s.desc.unitSections unit) s2
  forEach (s.desc.unitSections unit) (reassess []) s3

/-! ### The select and operate exchange (R104, R105) -/

/-- The command of a unit that is in flight. -/
def State.inFlightOf (s : State) (unit : Nat) : Option Cmd := s.tpc.queue.find? fun c => c.unit == unit && c.inFlight

/-- A command in flight ends because its SELECT was not delivered (R104). When the echo of a try that another unit marked has made it
SELECTED already, its OPERATE is withdrawn, so that no breaker moves for a command that has ended (log 55). -/
def selectFailed (c : Cmd) (s : State) : State :=
  let t := (withdrawFrame (isOperateOf c (s.breakerNumber c.breaker)) s).2
  takeReports (endCmd c .failedDelivery t)

/-- The outcome of a SELECT frame (R104). A frame whose withdrawal was asked belongs to a command that has ended. The window that a
delivery starts is the limit for the echo, so the delivery of a SELECT whose echo has been taken starts none (log 55). -/
def selectOutcome (f : OutFrame) (number code : Nat) (o : FrameEnd) (s : State) : State :=
  if f.withdrawing then (if o == .delivered then cancelSelect f.dest number code s else s)
  else
    match s.inFlightOf f.dest with
    | some c =>
      if c.code = code ∧ s.breakerNumber c.breaker = number then
        match o with
        | .delivered => if c.phase = .selecting then s.modCmd c fun d => { d with window := some (s.now + 8) } else s
        | _ => selectFailed c s
      else s
    | none => s

def actionTarget : Action → Position
  | .opening => .opened
  | .closing => .closed

/-- OPERATE is delivered in time: the command leaves the queue and the breaker is MOVING (R105). -/
def startMove (c : Cmd) (s : State) : State :=
  let t := { s with tpc.queue := s.tpc.queue.filter fun d => !c.same d }
  let u := setBreaker c.breaker (.moving (actionTarget c.action) (s.now + 5) c.origin) t
  recomputeBudgets (ascending (s.desc.sectionsFed c.breaker)) u

/-- The outcome of an OPERATE frame (R105). -/
def operateOutcome (f : OutFrame) (code : Nat) (o : FrameEnd) (s : State) : State :=
  if f.withdrawing then s
  else
    match s.inFlightOf f.dest with
    | some c =>
      if c.phase == .selected && c.code == code then
        match o with
        | .delivered => startMove c s
        | _ => takeReports (endCmd c .failedDelivery s)
      else s
    | none => s

/-- A SELECT_ECHO of a unit (R104). The end of a command whose echo does not match reaches its origin before CANCEL_SELECT is posted (log
70). -/
def takeSelectEcho (unit : Nat) (payload : List Octet) (s : State) : State :=
  match readSelectEcho payload with
  | none => s
  | some (n, a, code) =>
    match s.inFlightOf unit with
    | none => cancelSelect unit n code s
    | some c =>
      let number := s.breakerNumber c.breaker
      if c.phase == .selecting then
        if number = n ∧ c.action = a ∧ c.code = code then
          let t := s.modCmd c fun d => { d with phase := .selected, window := some (s.now + 8) }
          match postFrame unit (.operate number code) t with
          | some u => u
          | none => takeReports (endCmd c .failedDelivery t)
        else cancelSelect unit number c.code (takeReports (endCmd c .echoMismatch s))
      else if number = n ∧ c.code = code then s
      else cancelSelect unit n code s

/-- The select window has reached its expiry. -/
def Cmd.windowOver (now : Nat) (c : Cmd) : Bool := c.window.any fun e => decide (e ≤ now)

/-- The select window of a command expires (R104, R105). Its end reaches its origin before its OPERATE is withdrawn and CANCEL_SELECT is
posted (log 70). -/
def selectWindowExpire (c : Cmd) (s : State) : State :=
  let number := s.breakerNumber c.breaker
  let t := takeReports (endCmd c .lapsed s)
  let u := if c.phase == .selected then (withdrawFrame (isOperateOf c number) t).2 else t
  cancelSelect c.unit number c.code u

/-- The operate limit of a MOVING breaker expires (R105). -/
def operateLimitExpire (b : Nat) (s : State) : State :=
  match s.brkState? b with
  | some (.moving target _ origin) =>
    recomputeBudgets (ascending (s.desc.sectionsFed b)) (takeReports (endMove b target origin .unknown .noResult s))
  | _ => s

/-! ### Section timers (R108, R114, R125) -/

/-- An expiry value has been reached. -/
def reached (now : Nat) (e : Option Nat) : Bool := e.any fun n => decide (n ≤ now)

/-- The reclose delay of a section expires (R108). -/
def recloseExpire (x : Nat) (s : State) : State :=
  let t := s.modSec x fun r => { r with reclose := none }
  match t.sec? x with
  | some r => if r.state == .tripped && !r.lockout && t.recloseAllowed x && r.seq.isNone then placeSeq x .reclose t else t
  | none => t

/-- The voltage confirm limit of a running sequence has been reached (R114). -/
def SecRec.confirmOver (now : Nat) (r : SecRec) : Bool :=
  match r.seq.bind (·.running) with
  | some (.confirm e) => decide (e ≤ now)
  | _ => false

/-- The confirm limit of an isolation has been reached (R125). -/
def Isolation.confirmOver (now : Nat) (i : Isolation) : Bool :=
  match i.phase with
  | .confirming e => decide (e ≤ now)
  | _ => false

/-- The confirm limit of an isolation expires without ABSENT (R125). -/
def isolationConfirmExpire (x : Nat) (s : State) : State :=
  let v := s.voltage x
  let t := failIsolation x (.failedVoltage v) s
  if v == .present then powerRaise .powerDiscrepancy 3 x t else t

end Sys2Proof.Machine
end

