-- ==== Sys2Proof/Machine/AnnounceCommands.lean ====
section
/-!
DEFINITION. The announcement commands: loading a template (R152), posting and withdrawing entries (R155, R156), the queries (R165),
and the timers of entries, deliveries, zones and displays (R156 to R159, R164).
-/

namespace Sys2Proof.Machine

/-! ### TEMPLATE_LOAD (R152) -/

/-- An element in range (R151). -/
def elementInRange : Element → Bool
  | .phrase id => decide (id ≤ 4095)
  | .slot _ => true

/-- The position of the first element at fault, out of range or beyond the twelfth, counted from a position (R152). -/
def badElement (pos : Nat) : List Element → Option Nat
  | [] => none
  | e :: l => if 12 ≤ pos || !elementInRange e then some pos else badElement (pos + 1) l

/-- What an element may expand to at most (R152). -/
def worstCase : Element → Nat
  | .slot .train => 3
  | _ => 1

/-- The checks of an element list; the position of an element at fault is in index= (R152, R182; log 43). -/
def checkElements (l : List Element) : Checked Unit := do
  let bad := if l.isEmpty then some 0 else badElement 0 l
  match bad with
  | some n => .error ⟨.badField, [fld "field" (vWord "elements"), fld "index" (vNum n)]⟩
  | none => require (decide ((l.map worstCase).sum ≤ 12)) (badField "elements")

/-- The answer to TEMPLATE_LOAD (R152). -/
def answerTemplateLoad (tag : Nat) (index : Option Nat) (elements : Option (List Element)) (s : State) : Checked State := do
  let i ← needIn "index" 0 255 index
  let l ← needField "elements" elements
  checkElements l
  require s.otherRoom (refuse .storeBusy)
  .ok ((s.placeOtherOp (.templateWrite i l)).conclude.ok tag [])

/-- TEMPLATE_LOAD (R152). -/
def execTemplateLoad (tag : Nat) (index : Option Nat) (elements : Option (List Element)) (s : State) :
    Host.Outcome State Fault Refusal :=
  takeRequest (.templateLoad tag index elements) tag (answerTemplateLoad tag index elements) s

/-- A place of the library after its write, in the store and in the working copy alike (R62, R152). -/
def setTemplate (i : Nat) (l : List Element) (damaged : Bool) (s : State) : State :=
  { s with lst.templates := putTemplate i l damaged s.lst.templates, ans.templates := putTemplate i l damaged s.ans.templates }

/-- TEMPLATE_WRITE_COMPLETION (R62, R152). -/
def execTemplateWriteCompletion (o : StoreOutcome) (s : State) : Host.Outcome State Fault Refusal :=
  .next (match s.lst.inFlight with
    | some (.templateWrite i l) =>
      let t := { s with lst.inFlight := none }
      let u := match o with
        | .done => setTemplate i l false t
        | .failed => setTemplate i [] true t
      (u.storeNotice "TEMPLATES" (vNum i) (storeOutcomeWord o)).conclude
    | _ => s)

/-! ### ANNOUNCE (R155) -/

/-- The scope field: ALL, or a list of 1 to 32 stations in range (R153, R155). A list may name a station twice: the set of its stations
counts (log 75). -/
def needScope (o : Option ScopeArg) : Checked ScopeArg := do
  let a ← needField "scope" o
  match a with
  | .all => .ok a
  | .stations l => do
    require (!l.isEmpty && l.all fun n => decide (n ≤ 31)) (badField "scope")
    .ok a

/-- The repeat field: 1 to 15 or CONTINUOUS (R153, R155). -/
def needRepeat (o : Option Repeat) : Checked Repeat := do
  let r ← needField "repeat" o
  match r with
  | .times n => do
    require (decide (1 ≤ n) && decide (n ≤ 15)) (badField "repeat")
    .ok r
  | .continuous => .ok r

/-- The repeat interval: required when the repeat is not 1, and absent for repeat 1 (R153, R155; log 17). -/
def needInterval (r : Repeat) (o : Option Nat) : Checked (Option Nat) := do
  if r = .times 1 then do
    require o.isNone (badField "repeat_interval")
    .ok none
  else .ok (some (← needIn "repeat_interval" 10 1800 o))

/-- The stations of a scope field at the moment of the request (R155). -/
def State.scopeOf (s : State) : ScopeArg → List Nat
  | .all => s.desc.stations.map (·.index)
  | .stations l => l

/-- A station given by number has a record in the working description. -/
def State.stationKnown (s : State) (st : Nat) : Bool := (s.desc.station? st).isSome

/-- The listed stations of a scope field have records (R155). -/
def State.scopeKnown (s : State) : ScopeArg → Bool
  | .all => true
  | .stations l => l.all s.stationKnown

/-- The post that ANNOUNCE asks for, every field in the order of R153 (R155). -/
def postGiven (f : PostFields) (s : State) : Checked Post := do
  let template ← needIn "template" 0 255 f.template
  let station ← maybeIn "station" 0 31 f.station
  let minutes ← maybeIn "minutes" 0 999 f.minutes
  let platform ← maybeIn "platform" 0 63 f.platform
  let train ← maybeIn "train" 1 999 f.train
  let priority ← needField "priority" f.priority
  let scope ← needScope f.scope
  let rep ← needRepeat f.rep
  let interval ← needInterval rep f.interval
  let expiry ← maybeIn "expiry_duration" 10 86400 f.expiry
  let display ← needField "display_flag" f.display
  require (s.scopeKnown scope) (refuseField .notFound "scope")
  require (station.all s.stationKnown) (refuseField .notFound "station")
  .ok { template := template, station := station, minutes := minutes, platform := platform, train := train,
        priority := priority, scope := s.scopeOf scope, origin := .operator, rep := rep, interval := interval,
        expiryAfter := expiry, display := display }

/-- The answer to ANNOUNCE (R155). -/
def answerAnnounce (tag : Nat) (f : PostFields) (s : State) : Checked State := do
  let p ← postGiven f s
  match postEntry p s with
  | (.made id evicted, t) => .ok (t.conclude.ok tag [fld "id" (vNum id), fld "evicted" (vMaybe evicted)])
  | (.noStation, _) => .error (refuse .state)
  | (.full, _) => .error (refuse .full)

/-- ANNOUNCE (R155). -/
def execAnnounce (tag : Nat) (fields : PostFields) (s : State) : Host.Outcome State Fault Refusal :=
  takeRequest (.announce tag fields) tag (answerAnnounce tag fields) s

/-! ### WITHDRAW (R156) -/

/-- The answer to WITHDRAW (R156). -/
def answerWithdraw (tag : Nat) (id : Option Nat) (s : State) : Checked State := do
  let n ← needIn "id" 1 255 id
  let e ← need (s.entry? n) (refuse .notFound)
  .ok ((withdrawEntry e.id .withdrawn s).conclude.ok tag [fld "id" (vNum n)])

/-- WITHDRAW (R156). -/
def execWithdraw (tag : Nat) (id : Option Nat) (s : State) : Host.Outcome State Fault Refusal :=
  takeRequest (.withdraw tag id) tag (answerWithdraw tag id) s

/-! ### ANNOUNCE_QUERY and ZONE_QUERY (R165) -/

/-- The number of entries of a priority. -/
def State.ofPriority (s : State) (p : Priority) : Nat := (s.ans.entries.filter (·.priority == p)).length

def announceTableLine (s : State) : String × List Field :=
  ("TABLE", [fld "emergency" (vNum (s.ofPriority .emergency)), fld "safety" (vNum (s.ofPriority .safety)),
    fld "service" (vNum (s.ofPriority .service)), fld "information" (vNum (s.ofPriority .information)),
    fld "free_places" (vNum (48 - s.ans.entries.length))])

/-- The number of deliveries of an entry in a state. -/
def Entry.inState (e : Entry) (st : DeliveryState) : Nat := (e.deliveries.filter (·.state == st)).length

def entryLine (s : State) (e : Entry) : String × List Field :=
  ("ENTRY", [fld "id" (vNum e.id), fld "template" (vNum e.template), fld "station" (vMaybe e.station),
    fld "minutes" (vMaybe e.minutes), fld "platform" (vMaybe e.platform), fld "train" (vMaybe e.train),
    fld "priority" (vWord (priorityWord e.priority)), fld "scope" (vNums e.scope), fld "origin" (.one (entryOriginAtom e.origin)),
    fld "repeat" (vRepeat e.rep), fld "repeat_interval" (vMaybe e.interval), fld "expiry" (vLeft s.now e.expiry),
    fld "display_flag" (vYes e.display), fld "state" (vWord (if e.withdrawing.isSome then "WITHDRAWING" else "ACTIVE")),
    fld "pending" (vNum (e.inState .pending)), fld "playing" (vNum (e.inState .playing)),
    fld "stopping" (vNum (e.inState .stopping)), fld "done" (vNum (e.inState .done)), fld "skipped" (vNum (e.inState .skipped))])

def deliveryLine (s : State) (d : Delivery) : String × List Field :=
  ("DELIVERY", [fld "station" (vNum d.station), fld "state" (vWord (deliveryStateWord d.state)), fld "plays_left" (vRepeat d.plays),
    fld "next_eligible_time" (vInt (secondsTo s d.eligible))])

def templateLine (s : State) (i : Nat) : String × List Field :=
  let p := findTemplate s.ans.templates i
  let l := (p.map (·.elements)).getD []
  ("TEMPLATE", [fld "index" (vNum i), fld "elements" (if l.isEmpty then vWord "EMPTY" else .list (l.map elementAtom)),
    fld "damaged_mark" (vYes ((p.map (·.damaged)).getD false))])

/-- The answer to ANNOUNCE_QUERY (R165). -/
def answerAnnounceQuery (tag : Nat) (id : Option Nat) (what : Option What) (s : State) : Checked State := do
  let t := s.clearFlag .announce
  match ← maybeIn "id" 1 255 id with
  | some n => do
    let e ← need (s.entry? n) (refuse .notFound)
    .ok (t.replyBlock tag (announceTableLine s :: entryLine s e :: e.deliveries.map (deliveryLine s)))
  | none =>
    match what with
    | some .templates => .ok (t.replyBlock tag (announceTableLine s :: (List.range 256).map (templateLine s)))
    | _ => .ok (t.replyBlock tag (announceTableLine s :: s.ans.entries.map (entryLine s)))

/-- ANNOUNCE_QUERY (R165). -/
def execAnnounceQuery (tag : Nat) (id : Option Nat) (what : Option What) (s : State) : Host.Outcome State Fault Refusal :=
  takeRequest (.announceQuery tag id what) tag (answerAnnounceQuery tag id what) s

def progressWord : Bool → String
  | true => "SENT"
  | false => "QUEUED"

/-- What a zone's line gives of its play or stop (R165). -/
def zonePlayFields (now : Nat) : ZoneState → List Field
  | .playing e o sent limit =>
    [fld "entry" (vNum e), fld "next_entry" vAbsent, fld "override_flag" (vYes o), fld "frame_progress" (vWord (progressWord sent)),
     fld "play_limit" (vLeft now (some limit))]
  | .stopping e sent next limit =>
    [fld "entry" (vNum e), fld "next_entry" (vMaybe next), fld "override_flag" vAbsent, fld "frame_progress" (vWord (progressWord sent)),
     fld "play_limit" (vLeft now (some limit))]
  | _ => [fld "entry" vAbsent, fld "next_entry" vAbsent, fld "override_flag" vAbsent, fld "frame_progress" vAbsent, fld "play_limit" vAbsent]

def zoneLine (s : State) (z : Zone) : String × List Field :=
  ("ZONE", [fld "station" (vNum z.station), fld "state" (vWord (zoneStateWord z.state))] ++ zonePlayFields s.now z.state ++
    [fld "microphone" (vMaybeWord (z.mic.map micWord))])

def indicationAtom : Indication → Atom
  | .minutes n => .num n
  | .arriving => .word "ARRIVING"

def vItem : Option DisplayItem → Value
  | some i => .list [.num i.train, indicationAtom i.indication]
  | none => vAbsent

def displayLine (s : State) (d : Display) : String × List Field :=
  ("DISPLAY", [fld "platform" (vNum d.platform), fld "value_last_sent" (vYes d.last.isSome), fld "first" (vItem (d.last.bind (·.first))),
    fld "second" (vItem (d.last.bind (·.second))), fld "closed" (vMaybeWord (d.last.map fun v => yesNoWord v.closed)),
    fld "message" (vNums ((d.last.map (·.message)).getD [])), fld "refresh_expiry" (vLeft s.now d.refresh)])

/-- A zone's line and the lines of its platforms (R165). -/
def zoneLines (s : State) (z : Zone) : List (String × List Field) :=
  zoneLine s z :: (s.ans.displays.filter fun d => platformStation d.platform == z.station).map (displayLine s)

/-- The answer to ZONE_QUERY (R165). -/
def answerZoneQuery (tag : Nat) (station : Option Nat) (s : State) : Checked State := do
  let t := s.clearFlag .announce
  match ← maybeIn "station" 0 31 station with
  | some n => do
    let z ← need (s.zone? n) (refuse .notFound)
    .ok (t.replyBlock tag (zoneLines s z))
  | none => .ok (t.replyBlock tag (s.ans.zones.flatMap (zoneLines s)))

/-- ZONE_QUERY (R165). -/
def execZoneQuery (tag : Nat) (station : Option Nat) (s : State) : Host.Outcome State Fault Refusal :=
  takeRequest (.zoneQuery tag station) tag (answerZoneQuery tag station) s

/-! ### Timers (R156 to R159, R164) -/

/-- ENTRY_EXPIRY: an ACTIVE entry is withdrawn (R156). -/
def execEntryExpiry (entry : Nat) (s : State) : Host.Outcome State Fault Refusal :=
  .next (match s.entry? entry with
    | some e => if e.withdrawing.isNone && reached s.now e.expiry then (withdrawEntry entry .expired s).conclude else s
    | none => s)

/-- A delivery whose next eligible time is still to be reached as an event has reached it (R153, R157). -/
def Delivery.due (now : Nat) (d : Delivery) : Bool := d.awaiting && d.state == .pending && decide (d.eligible ≤ now)

/-- The entry has such a delivery at the station, and still plays. -/
def Entry.dueAt (now st : Nat) (e : Entry) : Bool :=
  e.withdrawing.isNone && e.deliveries.any fun d => d.station == st && d.due now

/-- DELIVERY_ELIGIBLE: the zone selects, or the pre-emption is tested (R157, R159, R162). -/
def execDeliveryEligible (entry station : Nat) (s : State) : Host.Outcome State Fault Refusal :=
  .next (match s.entry? entry with
    | some e =>
      if e.dueAt s.now station then
        (offerDelivery entry station (s.modDelivery entry station fun d => { d with awaiting := false })).conclude
      else s
    | none => s)

/-- The play limit expires while the zone plays or stops an entry (R158, R159). -/
def playLimitExpire (st : Nat) (z : ZoneState) (s : State) : State :=
  match z with
  | .playing id override _ _ => leavePlaying st override (playDone id st (postOrDrop (s.stationUnit st) (.stopPlay id) s))
  | .stopping .. => confirmStop st .back s
  | _ => s

/-- A zone's play limit has been reached (R157, R158). -/
def ZoneState.limitOver (now : Nat) : ZoneState → Bool
  | .playing _ _ _ limit => decide (limit ≤ now)
  | .stopping _ _ _ limit => decide (limit ≤ now)
  | _ => false

/-- PLAY_LIMIT_EXPIRY (R158, R159). -/
def execPlayLimitExpiry (station : Nat) (s : State) : Host.Outcome State Fault Refusal :=
  .next (match s.zoneState? station with
    | some z => if z.limitOver s.now then (playLimitExpire station z s).conclude else s
    | none => s)

/-- DISPLAY_REFRESH_EXPIRY: the shown value is computed and DISPLAY posted (R164). -/
def execDisplayRefreshExpiry (platform : Nat) (s : State) : Host.Outcome State Fault Refusal :=
  .next (match s.display? platform with
    | some d => if reached s.now d.refresh then (computeDisplay true platform s).conclude else s
    | none => s)

end Sys2Proof.Machine
end

