-- ==== Sys2Proof/Machine/Track.lean ====
section
/-!
DEFINITION. The train tracker: placing and leaving (R47, R48), track events and status reports (R44 to R46, R49), the reports to the
other blocks (R50) with departures (R90) and regeneration windows (R112), silent units (R51), stalls (R53) and withdrawal (R57, R93).
-/

namespace Sys2Proof.Machine

/-- What a change of the tables asks of the INM: a TRACK_DISCREPANCY at a segment, or the automatic closure of the TRAIN_STOPPED
incident at one (R47, R48, R52). -/
inductive TrackAct where
  | discrepancy (seg : Nat)
  | closeStall (seg : Nat)
deriving DecidableEq, Repr

/-- A change of the tables, and what it asks of the INM, in order. -/
abbrev Tables := State × List TrackAct

/-- One change of the tables after another. -/
def Tables.andThen (t : Tables) (f : State → Tables) : Tables := ((f t.1).1, t.2 ++ (f t.1).2)

/-- A change of the tables for each member of a list. -/
def eachTables (l : List α) (f : α → State → Tables) (s : State) : Tables :=
  l.foldl (fun acc x => acc.andThen (f x)) (s, [])

/-- A TRACK_DISCREPANCY of the TRK (R52). -/
def trackDiscrepancy (l : Location) (s : State) : State := raised .trackDiscrepancy 2 l .tracker s

/-- The INM is asked, once the tables stand (R52). -/
def actOn : TrackAct → State → State
  | .discrepancy g, s => trackDiscrepancy (.segment g) s
  | .closeStall g, s => autoClose .trainStopped (.segment g) s

/-! ### Taking and leaving segments (R47, R48) -/

/-- A train becomes LOST: its stall timer stops and its stall mark is cleared (R51, R53). -/
def loseTrain (n : Nat) (s : State) : State :=
  s.modTrain n fun t => { t with state := .lost, stallBase := none, stallMark := none }

/-- A segment of a new position is taken from another train that holds it (R47, step 1). -/
def takeSegment (mine : Option Nat) (position : List Nat) (g : Nat) (s : State) : Tables :=
  match s.occ g with
  | .occupied k =>
    if mine = some k then (s, [])
    else
      match s.train? k with
      | none => (s, [])
      | some r =>
        let s1 := if r.tail = some g then s.modTrain k fun t => { t with tail := none } else s
        let s2 :=
          if r.head = g then
            match r.tail with
            | some u => if position.contains u then loseTrain k s1 else (loseTrain k s1).setOcc u .unidentified
            | none => loseTrain k s1
          else s1
        (s2, [.discrepancy g])
  | _ => (s, [])

/-- A movement of a train: the movement mark, the stall timer, and a stall mark that is cleared with a closing request (R47 step 4, R48,
R53). A train that moves into a DEPOT segment has the closing request too, as R47 gives for every movement, though R53 clears the mark of
a train made STABLED without one (log 48). -/
def moved (n : Nat) (s : State) : Tables :=
  let acts := match (s.train? n).bind (·.stallMark) with
    | some g => [TrackAct.closeStall g]
    | none => []
  (restartStall n (s.modTrain n fun t => { t with movement := s.now, stallMark := none }), acts)

/-- A LEAVE of a segment (R48). -/
def leave (g : Nat) (s : State) : Tables :=
  match s.occ g with
  | .occupied k =>
    match s.train? k with
    | none => (s.setOcc g .clear, [])
    | some r =>
      if r.head = g then
        let s1 := loseTrain k (s.setOcc g .clear)
        (match r.tail with
          | some u => s1.setOcc u .unidentified
          | none => s1, [.discrepancy g])
      else moved k ((s.setOcc g .clear).modTrain k fun t => { t with tail := none })
  | .unidentified => (s.setOcc g .clear, [])
  | .unknown => (s.setOcc g .clear, [])
  | .clear => (s, [])

/-- A segment is taken from any train that holds it and becomes OCCUPIED_UNIDENTIFIED (R45, R46, R49). -/
def makeUnidentified (position : List Nat) (g : Nat) (s : State) : Tables :=
  let t := takeSegment none position g s
  (t.1.setOcc g .unidentified, t.2)

/-! ### Placing a train (R47) -/

/-- The four ways a train comes to a position (R47). -/
inductive Placing where
  | move | relocation | recovery | creation
deriving DecidableEq, Repr

/-- The record of a new train (R42). -/
def newTrain (now n head : Nat) : Train :=
  { number := n, state := .positioning, head := head, tail := none, movement := now, stallMark := none, stallBase := none,
    draw := 2, trip := none, nextPoint := 0, deviation := 0, holds := [], authority := none, call := none, entryMark := now,
    entryMove := false, delayEntry := none }

/-- A new train joins the table (R42). -/
def createTrain (n h : Nat) (s : State) : State :=
  { s with trk.trains := insertBy (·.number) (newTrain s.now n h) s.trk.trains }

/-- The state of a train placed at a head (R43, R47 step 5). -/
def placedState (s : State) (t : Train) (head : Nat) : TrainState :=
  if (s.desc.segment? head).any (·.track == .depot) then .stabled
  else if t.state == .stabled || t.state == .lost then (if t.trip.isSome then .inService else .positioning)
  else t.state

/-- The segments a train leaves that are still OCCUPIED with it (R47, step 2). -/
def leftBehind (s : State) (t : Train) (position : List Nat) : List Nat :=
  (t.head :: t.tail.toList).filter fun g => !position.contains g && s.occ g == .occupied t.number

/-- Steps 1 to 5 of R47. Where both segments of the new position are taken from other trains, the head is taken and raised before the tail,
whatever their indices; a relocation has its incident at the new head, the last of its raises and before its reports (R45, R49; both
log 31). -/
def placeTables (n h : Nat) (tail : Option Nat) (kind : Placing) (s : State) : Tables :=
  let position := h :: tail.toList
  let s0 := when (kind == .creation) (createTrain n h) s
  match s0.train? n with
  | none => (s, [])
  | some r =>
    let taken := eachTables position (takeSegment (some n) position) s0
    let left := if kind == .creation then [] else leftBehind taken.1 r position
    let acts := taken.2 ++ (if kind == .move then left.map TrackAct.discrepancy else [])
    let relocated := if kind == .relocation then [TrackAct.discrepancy h] else []
    let s1 := forEach left (fun g t => t.setOcc g .unidentified) taken.1
    let s2 := forEach position (fun g t => t.setOcc g (.occupied n)) s1
    let state := placedState s r h
    let s3 := s2.modTrain n fun t => { t with head := h, tail := tail, state := state }
    if r.head != h || kind == .creation || kind == .recovery then
      let m := moved n s3
      (m.1, acts ++ m.2 ++ relocated)
    else (s3, acts ++ relocated)

/-! ### The reports (R50) -/

/-- A head entry: the old head is absent for RELOCATED (R50). -/
structure HeadEntry where
  train : Nat
  head : Nat
  old : Option Nat
  stalled : Bool
deriving DecidableEq, Repr

/-- The trains whose state has changed between two tables, or that are new, ascending. -/
def changedTrains (before after : State) : List Nat :=
  (after.trk.trains.filter fun t => ((before.train? t.number).map (·.state)) != some t.state).map (·.number)

/-- The segments whose occupancy has changed between two tables, with the occupancies before and after, ascending. -/
def changedSegments (before after : State) : List (Nat × Occupancy × Occupancy) :=
  after.trk.segs.filterMap fun g => if before.occ g.index == g.occ then none else some (g.index, before.occ g.index, g.occ)

/-- A state change: the TRAIN notice, and the end of the call of a train made LOST or STABLED (R50, R85). -/
def reportState (n : Nat) (s : State) : State :=
  let t := s.trainNotice n
  if (t.train? n).any fun r => r.state == .lost || r.state == .stabled then abortCall n t else t

/-- A departure acts on the train's authority (R90). -/
def departAuthority (n : Nat) (s : State) : State :=
  match (s.train? n).bind (·.authority) with
  | none => s
  | some a =>
    match a.state with
    | .revoking => s.modAuthority n fun r => { r with departed := true }
    | _ => s.modTrain n fun t => { t with authority := none }

/-- The departure calls for an incident: the train had neither an authority nor a DEPARTING call (R90). -/
def unauthorised (s : State) (n : Nat) : Bool :=
  match s.train? n with
  | some t => t.authority.isNone && (t.call.map (·.phase)) != some .departing
  | none => false

/-- A departure of a train from a platform (R90). -/
def depart (n p : Nat) (s : State) : State :=
  let t := recordDeparture n p (departAuthority n s)
  match s.desc.platformSegment? p with
  | some g => if unauthorised s n then trackDiscrepancy (.segment g.index) t else t
  | none => t

/-- A regeneration window opens, or moves its expiry; an opening re-offers the section's departures (R112). -/
def openWindow (x : Nat) (s : State) : State :=
  match s.sec? x with
  | none => s
  | some r =>
    let t := s.modSec x fun q => { q with window := some (s.now + 10) }
    if r.window.isNone && r.state == .energised then reoffer x t else t

/-- The sections whose regeneration window a head's entry opens: those of the platform segments it is the predecessor of, by ascending
platform (R112). -/
def windowSections (d : Description) (head : Nat) : List Nat :=
  (d.platformsAhead head).filterMap fun p => (d.platformSegment? p).map (·.sec)

/-- The TPC's part of a head entry: the grant of a train whose head has come to another section is released, and a move opens windows
(R111, R112). -/
def entryPower (e : HeadEntry) (s : State) : State :=
  let t := match s.grant? e.train with
    | some g => if s.desc.sectionOf? e.head != some g.sec then releaseGrant e.train s else s
    | none => s
  if e.old.isSome then forEach (windowSections t.desc e.head) openWindow t else t

/-- The SRG's part of a head entry: the sample, the entry mark, the departure or the end of a relocated train's call, and the arrival
(R50, R85, R94). -/
def entryService (e : HeadEntry) (s : State) : State :=
  let s1 :=
    match e.old with
    | some o =>
      let t := setEntryMark e.train true (takeSample e.train o e.head e.stalled s)
      match t.desc.platformOf? o with
      | some p => depart e.train p t
      | none => t
    | none => abortCall e.train (setEntryMark e.train false s)
  match s1.desc.platformOf? e.head with
  | some p => arrive e.train p s1
  | none => s1

/-- A head entry is reported to the SRG, the TPC and the ANS (R50, R163, R164). -/
def reportEntry (e : HeadEntry) (s : State) : State :=
  let t := entryPower e (entryService e s)
  (when e.old.isSome (arrivalEntries e.train e.head) t).displaysAll

/-- An occupancy change reaches the SRG: a platform's next segment that leaves CLEAR revokes, one that becomes CLEAR has the waiting
calls evaluated (R86, R89). -/
def reportOccupancy (q : Nat × Occupancy × Occupancy) (s : State) : State :=
  let into : Nat → Bool := fun p => s.desc.nextSegment? p == some q.1
  if q.2.2 == .clear then
    evaluateMany (s.waitingTrains.filter fun n => (((s.train? n).bind (·.call)).map fun c => into c.platform) == some true) s
  else if q.2.1 == .clear then
    forEach (s.desc.platforms.filter into) (fun p t => forEach (t.authorisedAt p) revoke t) s
  else s

/-- The reports of R50 in their order, for what changed between the tables before and after; the isolations in CLEARING are then tested
(R123). -/
def reportChanges (before after : State) (entry : Option HeadEntry) (s : State) : State :=
  let states := changedTrains before after
  let s1 := forEach states reportState s
  let s2 := if states.isEmpty then s1 else s1.displaysAll
  let s3 := match entry with
    | some e => reportEntry e s2
    | none => s2
  testClearing (forEach (changedSegments before after) reportOccupancy s3)

/-- The tables change, the INM is asked, and the reports are made (R50, R52). -/
def trackStep (change : State → Tables) (entry : Option HeadEntry) (s : State) : State :=
  let t := change s
  reportChanges s t.1 entry (forEach t.2 actOn t.1)

/-- Place a train (R47): a head entry is reported when its head has changed or it was created or recovered (R50). -/
def place (n h : Nat) (tail : Option Nat) (kind : Placing) (s : State) : State :=
  let old := s.train? n
  let entered := (old.map (·.head)) != some h || kind == .creation || kind == .recovery
  let from_ := if kind == .move then old.map (·.head) else none
  let stalled := (old.bind (·.stallMark)).isSome
  let entry : HeadEntry := { train := n, head := h, old := from_, stalled := stalled }
  trackStep (placeTables n h tail kind) (if entered then some entry else none) s

/-- A relocation (R45, R49). -/
def relocate (n h : Nat) (tail : Option Nat) (s : State) : State := place n h tail .relocation s

/-- Segments that no train can be placed on become OCCUPIED_UNIDENTIFIED, with an incident at one of them (R45, R46, R49). -/
def unidentify (segs : List Nat) (at_ : Nat) (s : State) : State :=
  let change : State → Tables := fun s =>
    let t := eachTables segs (makeUnidentified segs) s
    (t.1, t.2 ++ [.discrepancy at_])
  trackStep change none s

/-! ### Track events (R44 to R46) -/

/-- A segment follows a DEPOT segment (R45). -/
def followsDepot (d : Description) (g : Nat) : Bool := d.segments.any fun h => h.track == .depot && d.follows g h.index

/-- A numbered ENTER (R45). -/
def numberedEntry (n g : Nat) (s : State) : State :=
  match s.train? n with
  | some t =>
    if t.state == .lost then place n g none .recovery s
    else if t.head = g then s
    else if s.desc.follows g t.head then place n g (some t.head) .move s
    else relocate n g none s
  | none =>
    if followsDepot s.desc g && decide (s.trk.trains.length < 48) then place n g none .creation s
    else unidentify [g] g s

/-- The candidates of an unnumbered entry (R46). -/
def candidates (s : State) (g : Nat) : List Train :=
  s.trk.trains.filter fun t => t.state != .lost && s.desc.follows g t.head

/-- An unnumbered ENTER (R46). -/
def unnumberedEntry (g : Nat) (s : State) : State :=
  if s.trk.trains.any fun t => t.state != .lost && t.head == g then s
  else
    match candidates s g with
    | [t] => place t.number g (some t.head) .move s
    | _ => unidentify [g] g s

/-- The checks 2 and 3 of R44: the segment has a record and names the originating unit. -/
def covered (d : Description) (unit g : Nat) : Bool := (d.segment? g).any (·.unit == unit)

/-- A TRACK_EVENT of a unit (R44, R186). -/
def takeTrackEvent (unit : Nat) (payload : List Octet) (s : State) : State :=
  match readTrackEvent payload with
  | none => trackDiscrepancy (.unit unit) s
  | some (event, g, n) =>
    if 1 < event ∨ 999 < n ∨ !covered s.desc unit g then trackDiscrepancy (.unit unit) s
    else if event = 1 then trackStep (leave g) none s
    else if n = 0 then unnumberedEntry g s
    else numberedEntry n g s

/-! ### Status reports (R49) -/

/-- Pass 2 for one segment reported OCCUPIED without a number (R49). -/
def occupiedUnnumbered (g : Nat) (s : State) : Tables :=
  match s.occ g with
  | .unknown => (s.setOcc g .unidentified, [])
  | .clear => (s.setOcc g .unidentified, [.discrepancy g])
  | _ => (s, [])

/-- A position that one or two segments form, head and tail (R49). -/
def positionOf (d : Description) : List Nat → Option (Nat × Option Nat)
  | [g] => some (g, none)
  | [g, h] => if d.follows h g then some (h, some g) else if d.follows g h then some (g, some h) else none
  | _ => none

/-- Pass 3 for one number and its reported segments, ascending (R49). -/
def numberedStatus (m : Nat) (segs : List Nat) (s : State) : State :=
  match positionOf s.desc segs, segs with
  | none, [] => s
  | none, g :: _ => unidentify segs g s
  | some (h, tail), _ =>
    match s.train? m with
    | some t =>
      if t.state == .lost then place m h tail .recovery s
      else
        let mine := t.head :: t.tail.toList
        if segs.all mine.contains then s
        else
          match positionOf s.desc (ascending (segs ++ mine)) with
          | some (h2, tail2) => place m h2 tail2 .move s
          | none => relocate m h tail s
    | none =>
      if s.lmc.mode == .survey && decide (s.trk.trains.length < 48) then place m h tail .creation s
      else unidentify segs h s

/-- The entries of a status that pass the checks of R44. -/
def goodEntries (d : Description) (unit : Nat) (l : List TrackEntry) : List TrackEntry :=
  l.filter fun e => decide (e.number ≤ 999) && covered d unit e.segment

/-- The segments of the entries that a test picks, ascending. -/
def entrySegments (p : TrackEntry → Bool) (l : List TrackEntry) : List Nat := ascending ((l.filter p).map (·.segment))

/-- A TRACK_STATUS of a unit, in three passes (R49, R186). Each entry that fails the checks raises its incident first. -/
def takeTrackStatus (unit : Nat) (payload : List Octet) (s : State) : State :=
  match readTrackStatus payload with
  | none => trackDiscrepancy (.unit unit) s
  | some l =>
    let good := goodEntries s.desc unit l
    let s0 := forEach (l.filter fun e => !good.contains e) (fun _ t => trackDiscrepancy (.unit unit) t) s
    let s1 := trackStep (eachTables (entrySegments (fun e => !e.occupied) good) leave) none s0
    let s2 := trackStep (eachTables (entrySegments (fun e => e.occupied && e.number == 0) good) occupiedUnnumbered) none s1
    let numbers := ascending ((good.filter fun e => e.occupied && e.number != 0).map (·.number))
    forEach numbers (fun m t => numberedStatus m (entrySegments (fun e => e.occupied && e.number == m) good) t) s2

/-! ### Silent units (R51) -/

/-- What the staleness of a track unit does to one train (R51). -/
def staleTrain (covered : List Nat) (t : Train) (s : State) : State :=
  if t.state == .lost then s
  else if covered.contains t.head then
    match t.tail with
    | some u => if covered.contains u then loseTrain t.number s else (loseTrain t.number s).setOcc u .unidentified
    | none => loseTrain t.number s
  else
    match t.tail with
    | some u => if covered.contains u then s.modTrain t.number fun r => { r with tail := none } else s
    | none => s

/-- A track unit has gone STALE (R51). -/
def staleTrackUnit (unit : Nat) (s : State) : State :=
  let covered := s.desc.unitSegments unit
  let change : State → Tables := fun s =>
    (forEach s.trk.trains (staleTrain covered) (forEach covered (fun g t => t.setOcc g .unknown) s), [])
  trackStep change none s

/-! ### Stalls (R53) -/

/-- A train's stall timer has expired: TRAIN_STOPPED at its head, if it has no stall mark (R53). -/
def stallExpire (n : Nat) (s : State) : State :=
  match s.train? n with
  | none => s
  | some t =>
    let u := s.modTrain n fun t => { t with stallBase := none }
    if t.stallMark.isSome then u
    else raised .trainStopped 2 (.segment t.head) .tracker (u.modTrain n fun t => { t with stallMark := some t.head })

/-- The stall timer of a train has reached its expiry (R53, R54). -/
def stallDue (s : State) (t : Train) : Bool :=
  match t.stallBase with
  | some b => decide (b + s.trk.stallLimit ≤ s.now)
  | none => false

/-! ### Withdrawal (R57, R93) -/

/-- What the SRG drops with a train. A trip that is PENDING again, or CANCELLED, keeps the last deviation it had (R93; log 64). -/
def dropService (t : Train) (s : State) : State :=
  let s1 := match t.authority with
    | some a => if a.sent then s else (withdrawFrame (isAuthoriseOf a.id) s).2
    | none => s
  let s2 := s1.modTrain t.number fun r => { r with authority := none, call := none, holds := [] }
  let s3 := dropDelay t.number s2
  match t.trip with
  | none => s3
  | some k =>
    if ((s3.tripState? k).bind (·.actualStart)).isSome then setTrip k .cancelled (some .operator) s3
    else setTrip k .pending none s3

/-- A train is withdrawn: the tables, then the reports to the SRG, the TPC and the ANS (R50, R57, R93, R163). The TRAIN notice comes after
the record is gone and gives no state (log 50). -/
def withdrawTrain (t : Train) (s : State) : State :=
  let held := (s.trk.segs.filter fun g => g.occ == .occupied t.number).map (·.index)
  let s1 := forEach held (fun g u => u.setOcc g .unidentified) s
  let s2 := dropService t s1
  let s3 := { s2 with trk.trains := s2.trk.trains.filter (·.number != t.number) }
  let s4 := dropGrant t.number (s3.trainNotice t.number)
  let s5 := (dropArrivals t.number s4).displaysAll
  forEach (changedSegments s s1) reportOccupancy s5

end Sys2Proof.Machine
end

