-- ==== Sys2Proof/Machine/ServiceEvents.lean ====
section
/-!
DEFINITION. The service regulator's timers and the units' echoes of revocations (R86, R89, R91, R92).
-/

namespace Sys2Proof.Machine

/-- A TRACK_DISCREPANCY at a platform's segment (R90 to R92). -/
def platformDiscrepancy (p severity : Nat) (o : RaiseOrigin) (s : State) : State :=
  match s.desc.platformSegment? p with
  | some g => raised .trackDiscrepancy severity (.segment g.index) o s
  | none => s

/-- A DWELLING call's target mark has been reached (R85). -/
def Call.targetDue (now : Nat) (c : Call) : Bool := c.phase == .dwelling && decide (c.target ≤ now)

/-- A call's retry mark has been reached (R86). -/
def Call.retryDue (now : Nat) (c : Call) : Bool := c.retry.any fun m => decide (m ≤ now)

/-- A call's retry mark expires: it is evaluated while it is WAITING (R86, R88). -/
def retryExpire (n : Nat) (s : State) : State :=
  let t := s.modCall n fun c => { c with retry := none }
  if t.isWaiting n then evaluate n t else t

/-- An ISSUED authority's lapse has been reached (R88). -/
def Authority.lapseDue (now : Nat) (a : Authority) : Bool := a.state == .issued && decide (a.issuedCount + 30 ≤ now)

/-- A REVOKING authority's echo limit has been reached (R91). -/
def Authority.echoDue (now : Nat) (a : Authority) : Bool :=
  a.state == .revoking && a.echoLimit.any fun e => decide (e ≤ now)

/-- The echo limit of a revocation expires (R91). -/
def echoLimitExpire (n : Nat) (a : Authority) (s : State) : State :=
  if a.revokeSends < 2 then
    (postOrDrop (s.platformUnit a.platform) (.revoke a.id) s).modAuthority n fun r =>
      { r with revokeSends := 2, echoLimit := some (s.now + 3) }
  else if a.departed then authorityEnded n (s.modTrain n fun t => { t with authority := none })
  else
    let t := s.modAuthority n fun r => { r with state := .unconfirmed, echoLimit := none }
    platformDiscrepancy a.platform 3 .link (t.trainNotice n)

/-- The unit says that the train goes: the authority ends as consumed, and a call at its platform is DEPARTING for 30 s (R92); a WAITING
call at another platform is evaluated (R86). -/
def promiseDeparture (n : Nat) (a : Authority) (s : State) : State :=
  authorityEnded n ((s.modTrain n fun t => { t with authority := none }).modCall n fun c =>
    if c.platform = a.platform then { c with phase := .departing, departWait := some (s.now + 30) } else c)

/-- A matched echo of a revocation (R92). Where the echo raises, the call is evaluated after the raise (log 48). -/
def matchedEcho (n : Nat) (a : Authority) (late : Bool) (s : State) : State :=
  match a.state with
  | .issued => s
  | .revoking =>
    if a.departed then
      let t := s.modTrain n fun t => { t with authority := none }
      authorityEnded n (if late then t else platformDiscrepancy a.platform 2 .tracker t)
    else if late then promiseDeparture n a s
    else endWithdrawn n s
  | .unconfirmed => if late then promiseDeparture n a s else endWithdrawn n s

/-- A REVOKE_ECHO of a unit (R92). -/
def takeRevokeEcho (unit : Nat) (payload : List Octet) (s : State) : State :=
  match readRevokeEcho payload with
  | none => s
  | some (id, late) =>
    match s.trk.trains.find? fun t => (t.authority.map (·.id)) == some id with
    | none => s
    | some t =>
      match t.authority with
      | none => s
      | some a => if s.platformUnit a.platform = unit then matchedEcho t.number a late s else s

/-- A DEPARTING call's wait has been reached (R92). -/
def Call.waitDue (now : Nat) (c : Call) : Bool := c.phase == .departing && c.departWait.any fun e => decide (e ≤ now)

/-- The departure wait of a call expires with the train still at the platform (R92). -/
def departureWaitExpire (n : Nat) (c : Call) (s : State) : State :=
  let t := platformDiscrepancy c.platform 2 .tracker s
  evaluate n (t.modCall n fun c => { c with phase := .waiting, departWait := none })

end Sys2Proof.Machine
end

