-- ==== Sys2Proof/Machine/Wayside.lean ====
section
/-!
DEFINITION. The wayside link controller: tries and their ends (R21, R22), the reports of frame outcomes (R23), staleness (R30 to R32),
the judging and taking of inbound frames (R24, R25, R29), trigger patterns (R37, R38), and REVOKE_ALL (R40).
-/

namespace Sys2Proof.Machine

/-- A UNIT notice: address and state (R33, R183). -/
def State.unitNotice (a : Nat) (s : State) : State :=
  s.notice .unit [fld "address" (vNum a), fld "state" (vMaybeWord ((s.unitRec? a).map fun u => unitStateWord u.state))]

/-! ### Tries (R21) -/

/-- A unit that starts at the same moment wins against a frame of the part: only a more urgent one does, because the part's address 0
wins every tie (R21). -/
def rivalWins (f : OutFrame) (r : Rival) : Bool := decide (r.urgency.toNat < f.body.urgency)

/-- A try of the frame at the head of the queue starts, or arbitration is lost and a unit's frame has the line (R21). -/
def startTry (rivals : List Rival) (s : State) : State :=
  match s.wlc.line, s.wlc.outQueue with
  | .free, f :: q =>
    if rivals.any (rivalWins f) then { s with wlc.line := .unit }
    else { s with wlc.line := .part (wireFrame f) false, wlc.outQueue := { f with onLine := true } :: q }
  | _, _ => s

/-! ### Outcomes of frames (R23, R40) -/

/-- REVOKE_ALL has ended FAILED: it is posted again up to two further times, and then a UNIT notice is raised (R40). -/
def revokeAllFailed (s : State) : State :=
  if s.wlc.revokeAllPosts < 2 then
    postOrDrop 1023 .revokeAll { s with wlc.revokeAllPosts := s.wlc.revokeAllPosts + 1 }
  else s.unitNotice 1023

/-- The outcome of a frame is reported to the block that posted it (R23). -/
def reportFrame (f : OutFrame) (o : FrameEnd) (s : State) : State :=
  match f.body with
  | .poll => s
  | .revokeAll => if o == .failed then revokeAllFailed s else s
  | .authorise _ _ id => authoriseOutcome id o s
  | .revoke _ => s
  | .select n _ code => selectOutcome f n code o s
  | .operate _ code => operateOutcome f code o s
  | .cancelSelect _ _ => s
  | .play e _ _ _ => playOutcome f e o s
  | .stopPlay _ => s
  | .display p _ => if o == .failed then displayFailed p s else s

/-! ### Staleness (R30 to R32) -/

/-- A unit's poll pending becomes YES, unless a POLL to it is queued (R28). -/
def wantPoll (a : Nat) (s : State) : State :=
  if pollQueued a s then s else s.modUnit a fun u => { u with pollPending := true }

/-- The queue loses the frames addressed to a STALE unit; each is reported FAILED, but one on the line leaves at the end of its try
(R30, step 2). A frame that ends FAILED may let a QUEUED command of the unit start before R106 ends it (log 71). -/
def dropFrames (a : Nat) (s : State) : State :=
  let mine : OutFrame → Bool := fun f => f.dest == a && !f.body.isPoll
  let gone := s.wlc.outQueue.filter fun f => mine f && !f.onLine
  let kept := (s.wlc.outQueue.filter fun f => !(mine f && !f.onLine)).map fun f => if mine f then { f with removing := true } else f
  forEach gone (fun f t => reportFrame f .failed t) { s with wlc.outQueue := kept }

/-- The staleness reaches the owning block by the unit's kind (R31). -/
def reportStale (u : UnitRec) (s : State) : State :=
  match u.kind with
  | .track => staleTrackUnit u.address s
  | .power => stalePowerUnit u.address s
  | .station =>
    match s.desc.unitStation? u.address with
    | some st => staleZone st s
    | none => s

/-- A unit goes STALE (R30, R31); the survey readiness is computed at once, for an UNHEARD unit may be the one it waited for (R175; log
76). -/
def goStale (a : Nat) (origin : RaiseOrigin) (s : State) : State :=
  match s.unitRec? a with
  | none => s
  | some u =>
    let put : UnitRec → UnitRec := fun r => { r.restartTimer s.now (s.silenceLimit a) with state := .stale, failures := 0, sequence := none }
    let s1 := wantPoll a (s.modUnit a put).updateReadiness
    let s2 := reportStale u (dropFrames a s1)
    let s3 := if ((s.desc.unit? a).map (·.silenceIncident)).getD false then raised .fieldSilence 2 (.unit a) origin s2 else s2
    s3.unitNotice a

/-- A failed delivery is counted against a LIVE unit, which goes STALE on the third (R32). -/
def countFailure (a : Nat) (s : State) : State :=
  match s.unitRec? a with
  | none => s
  | some u =>
    if u.state == .live then
      if u.failures < 2 then s.modUnit a fun r => { r with failures := r.failures + 1 } else goStale a .link s
    else s

/-- A silence expiry (R28, R30). -/
def silenceExpire (a : Nat) (s : State) : State :=
  match s.unitRec? a with
  | none => s
  | some u =>
    if u.state == .stale then wantPoll a (s.modUnit a fun r => r.restartTimer s.now (s.silenceLimit a))
    else goStale a (.unit a) s

/-- A poll point (R28). -/
def pollPointPass (a : Nat) (s : State) : State :=
  let t := s.modUnit a fun u => { u with pollPassed := true }
  match s.unitRec? a with
  | some u => if u.state == .stale then t else wantPoll a t
  | none => t

/-! ### The end of a try (R22) -/

/-- The frame on the line leaves the queue. -/
def takeOff (s : State) : State := { s with wlc.outQueue := s.wlc.outQueue.filter fun f => !f.onLine }

/-- A try that was not marked: the frame is DELIVERED (R22). -/
def tryDelivered (f : OutFrame) (s : State) : State :=
  reportFrame f .delivered ((takeOff s).modUnit f.dest fun u => { u with failures := 0 })

/-- A try that was marked (R22, R23, R30). -/
def tryMarked (f : OutFrame) (s : State) : State :=
  if f.withdrawing then reportFrame f .withdrawn (takeOff s)
  else if f.removing then reportFrame f .failed (takeOff s)
  else if f.tries < 2 then
    let q := s.wlc.outQueue.map fun g => if g.onLine then { g with onLine := false, tries := g.tries + 1 } else g
    { s with wlc.outQueue := q }
  else countFailure f.dest (reportFrame f .failed (takeOff s))

/-- A try ends at its error-mark slot (R22); the outcome of one that a replacement has dropped reaches nobody (R40). -/
def endTry (mark : Bool) (s : State) : State :=
  match s.wlc.line with
  | .part _ dropped =>
    let t := { s with wlc.line := .free }
    if dropped then t
    else
      match t.wlc.outQueue.find? (·.onLine) with
      | some f => if mark then tryMarked f t else tryDelivered f t
      | none => t
  | _ => s

/-! ### Receiving (R24) -/

/-- The part rejects a frame: it is bad, or the inbound buffer is full (R24). -/
def rejects (f : WireFrame) (s : State) : Bool := !frameGood f || decide (16 ≤ s.wlc.inBuffer.length)

/-- The end of a frame that the part did not send (R24). -/
def receiveFrame (f : WireFrame) (otherMark : Bool) (s : State) : State :=
  match s.wlc.line with
  | .part _ _ => s
  | _ =>
    let t := { s with wlc.line := .free, wlc.drivesMark := rejects f s }
    if rejects f s || otherMark then t else { t with wlc.inBuffer := t.wlc.inBuffer ++ [f] }

/-! ### Taking inbound frames (R25, R29) -/

/-- What the handling of a frame comes to: an accepted frame of a kind, or a discarded one that is a good frame of a unit or not
(R25). -/
inductive Fate where
  | unknown
  | heard
  | accepted (k : InKind)
deriving DecidableEq, Repr

/-- The originator of a frame. -/
def frameSender (f : WireFrame) : Nat := f.originator.toNat

/-- The fate of a frame by steps 1 to 4 of R25. -/
def fateOf (s : State) (f : WireFrame) : Fate :=
  match s.unitRec? (frameSender f) with
  | none => .unknown
  | some u =>
    match inKind? f.kind.toNat with
    | none => .heard
    | some k => if maySend u.kind k && u.sequence != some f.sequence.toNat then .accepted k else .heard

/-- A good frame from a unit: it is heard, and an UNHEARD or STALE unit returns (R25 step 2, R29). The survey readiness is computed as the
unit becomes LIVE, before anything else that its return or its frame brings (R175; log 76). -/
def hear (a : Nat) (s : State) : State :=
  match s.unitRec? a with
  | none => s
  | some u =>
    let t := s.modUnit a fun r => { r.restartTimer s.now (s.silenceLimit a) with state := .live, heard := some s.lmc.lineTime }
    if u.state == .live then t
    else
      let v := t.updateReadiness
      let t1 := if u.kind == .power then recomputeBudgets (v.desc.unitSections a) v else v
      let t2 := if u.state == .stale then autoClose .fieldSilence (.unit a) t1 else t1
      t2.unitNotice a

/-! ### Trigger patterns (R37, R38) -/

/-- The window octets of a payload at an offset (R37). -/
def windowAt (payload : List Octet) (offset : Nat) : List Octet := (payload.drop offset).take 6

/-- Octets agree in every bit that the mask compares (R37). -/
def octetsMatch : List Octet → List Octet → List Octet → Bool
  | p :: ps, c :: cs, m :: ms => (p &&& m) == (c &&& m) && octetsMatch ps cs ms
  | _, _, _ => true

/-- The kind field of an entry admits a kind (R37). -/
def kindAdmits (k : KindOrAny) (x : InKind) : Bool :=
  match k with
  | .any => true
  | .kind y => y == x

/-- The length field of an entry admits a length (R37). -/
def lengthAdmits (l : OneOrAny) (n : Nat) : Bool :=
  match l with
  | .any => true
  | .one m => m == n

/-- An entry matches a frame (R37). -/
def patternMatches (p : Pattern) (k : InKind) (f : WireFrame) : Bool :=
  p.enabled && !p.spent && decide ((frameSender f ^^^ p.addressValue) &&& p.addressMask = 0) && kindAdmits p.kind k &&
    lengthAdmits p.length f.payload.length && decide (p.offset + 6 ≤ f.payload.length) &&
    octetsMatch (windowAt f.payload p.offset) p.compare p.mask

/-- The location of a unit (R38). -/
def unitLocation (d : Description) (a : Nat) : Location :=
  match d.unit? a with
  | none => .line
  | some u =>
    match u.kind with
    | .station => ((d.unitStation? a).map Location.station).getD .line
    | .track => ((d.unitSegments a).head?.map Location.segment).getD .line
    | .power => ((d.unitSections a).head?.map Location.powerSection).getD .line

/-- The location an entry hands to the INM (R38). -/
def patternLocation (d : Description) (r : LocationRule) (a : Nat) : Location :=
  match r with
  | .unitLocation => unitLocation d a
  | .fixed l => if locationKnown d l then l else .line

/-- A PATTERN notice: index and SET, ARM or MATCH (R183). -/
def State.patternNotice (index : Value) (event : String) (s : State) : State :=
  s.notice .pattern [fld "index" index, fld "event" (vWord event)]

/-- Change a pattern entry. -/
def State.modPattern (i : Nat) (f : Pattern → Pattern) (s : State) : State :=
  { s with wlc.patterns := s.wlc.patterns.modify i f }

/-- An entry that matches acts (R38). -/
def patternAct (i : Nat) (p : Pattern) (f : WireFrame) (s : State) : State :=
  let s1 := s.modPattern i fun q => { q with matched := saturate 65535 q.matched }
  let s2 := raised p.cls p.severity (patternLocation s.desc p.location (frameSender f)) (.pattern i) s1
  let s3 := if p.oneShot && isNight s2.lmc.mode then s2.modPattern i fun q => { q with spent := true } else s2
  s3.patternNotice (vNum i) "MATCH"

/-- A frame is tested against the entries in index order while the set is ARMED (R37). -/
def matchPatterns (k : InKind) (f : WireFrame) (s : State) : State :=
  if s.wlc.armed then
    forEach (List.range 16)
      (fun i t =>
        match t.wlc.patterns[i]? with
        | some p => if patternMatches p k f then patternAct i p f t else t
        | none => t) s
  else s

/-! ### Dispatch (R25, R26) -/

/-- The frame at the head of the inbound buffer leaves it. -/
def popFrame (s : State) : State := { s with wlc.inBuffer := s.wlc.inBuffer.tail }

/-- An accepted frame of a kind at the head of the buffer: it is heard, its sequence recorded, matched and handed to its block (R25).
A command for another fate changes nothing (log 1). -/
def acceptFrame (k : InKind) (act : Nat → List Octet → State → State) (s : State) : State :=
  match s.wlc.inBuffer with
  | [] => s
  | f :: _ =>
    if fateOf s f = Fate.accepted k then
      let t := (hear (frameSender f) s).modUnit (frameSender f) fun u => { u with sequence := some f.sequence.toNat }
      (popFrame (act (frameSender f) f.payload (matchPatterns k f t))).conclude
    else s

/-- A frame at the head of the buffer that is not dispatched: it is heard when it is a good frame of a unit (R25). -/
def discardFrame (s : State) : State :=
  match s.wlc.inBuffer with
  | [] => s
  | f :: _ =>
    match fateOf s f with
    | .accepted _ => s
    | .heard => (popFrame (hear (frameSender f) s)).conclude
    | .unknown => (popFrame s).conclude

/-- A STATION_STATUS of a unit (R161, R186). -/
def stationReport (unit : Nat) (payload : List Octet) (s : State) : State :=
  match readStationStatus payload, s.desc.unitStation? unit with
  | some (taken, clip), some st => takeStationStatus st taken clip s
  | _, _ => s

/-- A PLAY_END of a unit (R160, R186). -/
def playReport (unit : Nat) (payload : List Octet) (s : State) : State :=
  match readPlayEnd payload, s.desc.unitStation? unit with
  | some (id, o), some st => takePlayEnd st id o s
  | _, _ => s

/-! ### The start of the link (R27, R28, R40) -/

/-- A registry record after a start or a rebuild (R27). -/
def freshUnit (now : Nat) (u : UnitDesc) : UnitRec :=
  { address := u.address, kind := u.kind, state := .unheard, heard := none, sequence := none, failures := 0,
    silenceExpiry := now + u.silence, pollPoint := now + u.silence / 2, pollPassed := false, pollPending := true }

/-- Every entry becomes READY with matches 0 (R34). -/
def resetPattern (p : Pattern) : Pattern := { p with spent := false, matched := 0 }

/-- The link controller at a start or the replacement of the line description: the registry rebuilt, the queue emptied, the pattern set
UNARMED, REVOKE_ALL posted (R14, R27, R34, R40). -/
def rebuildLink (s : State) : State :=
  postOrDrop 1023 .revokeAll
    { s with
      wlc.outQueue := [], wlc.inBuffer := [], wlc.registry := s.desc.units.map (freshUnit s.now),
      wlc.patterns := s.wlc.patterns.map resetPattern, wlc.armed := false, wlc.revokeAllPosts := 0 }

end Sys2Proof.Machine
end

