-- ==== Sys2Proof/Machine/LinkCommands.lean ====
section
/-!
DEFINITION. The wayside link's commands: UNIT_QUERY (R33), the trigger pattern requests (R35, R36, R39), tries and received frames
(R21, R22, R24), the frames taken from the inbound buffer (R25, R26), and the units' timers (R28).
-/

namespace Sys2Proof.Machine

/-! ### UNIT_QUERY (R33) -/

def unitLine (u : UnitRec) : String × List Field :=
  ("UNIT", [fld "address" (vNum u.address), fld "kind" (vWord (unitKindWord u.kind)), fld "state" (vWord (unitStateWord u.state)),
    fld "time_last_heard" (vMaybe u.heard), fld "last_accepted_sequence" (vMaybe u.sequence), fld "consecutive_failed_deliveries" (vNum u.failures),
    fld "poll_pending" (vYes u.pollPending)])

def linkLine (s : State) : String × List Field :=
  ("LINK", [fld "outbound_queue" (vNum s.wlc.outQueue.length), fld "inbound_buffer" (vNum s.wlc.inBuffer.length),
    fld "pattern_set" (vWord (armedWord s.wlc.armed))])

/-- The answer to UNIT_QUERY (R33). -/
def answerUnitQuery (tag : Nat) (address : Option Nat) (s : State) : Checked State := do
  let a ← maybeIn "address" 1 1022 address
  let t := s.clearFlag .unit
  match a with
  | none => .ok (t.replyBlock tag (linkLine s :: s.wlc.registry.map unitLine))
  | some n =>
    let u ← need (s.unitRec? n) (refuse .notFound)
    .ok (t.replyBlock tag [linkLine s, unitLine u])

/-- UNIT_QUERY (R33). -/
def execUnitQuery (tag : Nat) (address : Option Nat) (s : State) : Host.Outcome State Fault Refusal :=
  takeRequest (.unitQuery tag address) tag (answerUnitQuery tag address) s

/-! ### PATTERN_SET (R35) -/

/-- The index or address of a location is in range (R34, R144). -/
def locationInRange : Location → Bool
  | .segment i => decide (i ≤ 127)
  | .station i => decide (i ≤ 31)
  | .powerSection i => decide (i ≤ 23)
  | .unit a => decide (1 ≤ a ∧ a ≤ 1022)
  | .line => true

def ruleInRange : LocationRule → Bool
  | .unitLocation => true
  | .fixed l => locationInRange l

def ruleKnown (d : Description) : LocationRule → Bool
  | .unitLocation => true
  | .fixed l => locationKnown d l

def lengthInRange : OneOrAny → Bool
  | .any => true
  | .one n => decide (n ≤ 32)

/-- The entry that PATTERN_SET gives, every field present and in range, in the order of R34 (R35). -/
def patternEntry (f : PatternFields) : Checked Pattern := do
  let enabled ← needField "enabled" f.enabled
  let value ← needIn "address_value" 0 1023 f.addressValue
  let amask ← needIn "address_mask" 0 1023 f.addressMask
  let kind ← needField "kind" f.kind
  let length ← needField "length" f.length
  require (lengthInRange length) (badField "length")
  let offset ← needIn "offset" 0 26 f.offset
  let compare ← needField "compare_octets" f.compare
  require (decide (compare.length = 6)) (badField "compare_octets")
  let mask ← needField "mask_octets" f.mask
  require (decide (mask.length = 6)) (badField "mask_octets")
  let cls ← needField "class" f.cls
  let severity ← needIn "severity" 1 4 f.severity
  let location ← needField "location" f.location
  require (ruleInRange location) (badField "location")
  let oneShot ← needField "one-shot" f.oneShot
  .ok { enabled := enabled, addressValue := value, addressMask := amask, kind := kind, length := length, offset := offset,
        compare := compare, mask := mask, cls := cls, severity := severity, location := location, oneShot := oneShot,
        spent := false, matched := 0 }

/-- The answer to PATTERN_SET (R35). -/
def answerPatternSet (tag : Nat) (f : PatternFields) (s : State) : Checked State := do
  let i ← needIn "index" 0 15 f.index
  let p ← patternEntry f
  require (ruleKnown s.desc p.location) (refuseField .notFound "location")
  let t := s.modPattern i fun _ => p
  .ok (({ t with wlc.armed := false }.patternNotice (vNum i) "SET").ok tag [])

/-- PATTERN_SET (R35). -/
def execPatternSet (tag : Nat) (f : PatternFields) (s : State) : Host.Outcome State Fault Refusal :=
  takeRequest (.patternSet tag f) tag (answerPatternSet tag f) s

/-! ### PATTERN_ARM (R36) -/

/-- The window of an enabled entry runs past its exact length (R36). -/
def windowTooLong (p : Pattern) : Bool :=
  p.enabled &&
    match p.length with
    | .one n => decide (n < p.offset + 6)
    | .any => false

/-- The answer to PATTERN_ARM (R36). Its PATTERN notice concerns no one entry, so the index is absent (log 69). -/
def answerPatternArm (tag : Nat) (s : State) : Checked State := do
  match s.wlc.patterns.zipIdx.find? fun q => windowTooLong q.1 with
  | some q => .error ⟨.badField, [fld "index" (vNum q.2), fld "field" (vWord "offset")]⟩
  | none => .ok ((({ readyPatterns s with wlc.armed := true }).patternNotice vAbsent "ARM").ok tag [])

/-- PATTERN_ARM (R36). -/
def execPatternArm (tag : Nat) (s : State) : Host.Outcome State Fault Refusal :=
  takeRequest (.patternArm tag) tag (answerPatternArm tag) s

/-! ### PATTERN_QUERY (R39) -/

def vKind : KindOrAny → Value
  | .any => vWord "ANY"
  | .kind k => vWord (inKindWord k)

def vLength : OneOrAny → Value
  | .any => vWord "ANY"
  | .one n => vNum n

def vRule : LocationRule → Value
  | .unitLocation => vWord "UNIT_LOCATION"
  | .fixed l => .one (locationAtom l)

def patternLine (i : Nat) (p : Pattern) : String × List Field :=
  ("PATTERN", [fld "index" (vNum i), fld "enabled" (vYes p.enabled), fld "address_value" (vNum p.addressValue),
    fld "address_mask" (vNum p.addressMask), fld "kind" (vKind p.kind), fld "length" (vLength p.length),
    fld "offset" (vNum p.offset), fld "compare_octets" (.octets p.compare), fld "mask_octets" (.octets p.mask),
    fld "class" (vWord (classWord p.cls)), fld "severity" (vNum p.severity), fld "location" (vRule p.location),
    fld "one-shot" (vYes p.oneShot), fld "run_state" (vWord (if p.spent then "SPENT" else "READY")),
    fld "matches" (vNum p.matched)])

/-- The answer to PATTERN_QUERY (R39). -/
def answerPatternQuery (tag : Nat) (index : Option Nat) (s : State) : Checked State := do
  let i ← maybeIn "index" 0 15 index
  let wanted := s.wlc.patterns.zipIdx.filter fun q => i.all (· == q.2)
  .ok ((s.clearFlag .pattern).replyBlock tag
    (("SET", [fld "set_state" (vWord (armedWord s.wlc.armed))]) :: wanted.map fun q => patternLine q.2 q.1))

/-- PATTERN_QUERY (R39). -/
def execPatternQuery (tag : Nat) (index : Option Nat) (s : State) : Host.Outcome State Fault Refusal :=
  takeRequest (.patternQuery tag index) tag (answerPatternQuery tag index) s

/-! ### Tries and received frames (R21, R22, R24) -/

/-- TRY_START: the line is free and the outbound queue is not empty (R21). -/
def execTryStart (rivals : List Rival) (s : State) : Host.Outcome State Fault Refusal := .next (startTry rivals s)

/-- TRY_END: a try reaches its error-mark slot (R22). -/
def execTryEnd (mark : Bool) (s : State) : Host.Outcome State Fault Refusal :=
  .next (match s.wlc.line with
    | .part _ _ => (endTry mark s).conclude
    | _ => s)

/-- FRAME_RECEIVE: a frame that the part did not send ends on the line (R24). -/
def execFrameReceive (f : WireFrame) (otherMark : Bool) (s : State) : Host.Outcome State Fault Refusal :=
  .next (receiveFrame f otherMark s)

/-! ### Frames taken from the inbound buffer (R25, R26) -/

/-- TRACK_EVENT: to the TRK (R26, R44). -/
def execTrackEvent (s : State) : Host.Outcome State Fault Refusal := .next (acceptFrame .trackEvent takeTrackEvent s)

/-- TRACK_STATUS: to the TRK (R26, R49). -/
def execTrackStatus (s : State) : Host.Outcome State Fault Refusal := .next (acceptFrame .trackStatus takeTrackStatus s)

/-- REVOKE_ECHO: to the SRG (R26, R92). -/
def execRevokeEcho (s : State) : Host.Outcome State Fault Refusal := .next (acceptFrame .revokeEcho takeRevokeEcho s)

/-- POWER_STATUS: to the TPC (R26, R100). -/
def execPowerStatus (s : State) : Host.Outcome State Fault Refusal := .next (acceptFrame .powerStatus takePowerStatus s)

/-- SELECT_ECHO: to the TPC (R26, R104). -/
def execSelectEcho (s : State) : Host.Outcome State Fault Refusal := .next (acceptFrame .selectEcho takeSelectEcho s)

/-- STATION_STATUS: to the ANS (R26, R161). -/
def execStationStatus (s : State) : Host.Outcome State Fault Refusal := .next (acceptFrame .stationStatus stationReport s)

/-- PLAY_END: to the ANS (R26, R160). -/
def execPlayEnd (s : State) : Host.Outcome State Fault Refusal := .next (acceptFrame .playEnd playReport s)

/-- ALARM: to no block, the pattern matcher alone (R26). -/
def execAlarm (s : State) : Host.Outcome State Fault Refusal := .next (acceptFrame .alarm (fun _ _ t => t) s)

/-- INBOUND_FRAME_DISCARDED: a frame that is not dispatched (R25). -/
def execInboundFrameDiscarded (s : State) : Host.Outcome State Fault Refusal := .next (discardFrame s)

/-! ### The units' timers (R28) -/

/-- POLL_POINT (R28). -/
def execPollPoint (a : Nat) (s : State) : Host.Outcome State Fault Refusal :=
  .next (match s.unitRec? a with
    | some u => if !u.pollPassed && decide (u.pollPoint ≤ s.now) then (pollPointPass a s).conclude else s
    | none => s)

/-- SILENCE_EXPIRY (R28). -/
def execSilenceExpiry (a : Nat) (s : State) : Host.Outcome State Fault Refusal :=
  .next (match s.unitRec? a with
    | some u => if u.silenceExpiry ≤ s.now then (silenceExpire a s).conclude else s
    | none => s)

end Sys2Proof.Machine
end

