-- ==== Sys2Proof/Machine/IncidentCommands.lean ====
section
/-!
DEFINITION. The incident commands: escalation periods (R134), the response table (R139, R140), raising and steering incidents (R144 to
R149), the query (R150), and the escalation timer (R138).
-/

namespace Sys2Proof.Machine

/-! ### ESCALATION_SET (R134) -/

/-- The answer to ESCALATION_SET; its reply carries the class beside the period (R134; log 56). -/
def answerEscalationSet (tag : Nat) (cls : Option IncClass) (period : Option Nat) (s : State) : Checked State := do
  let c ← needField "class" cls
  let n ← needIn "period" 30 600 period
  let t := { s with inm.periods := s.inm.periods.put c n }
  .ok (t.ok tag [fld "class" (vWord (classWord c)), fld "period" (vNum n)])

/-- ESCALATION_SET (R134). -/
def execEscalationSet (tag : Nat) (cls : Option IncClass) (period : Option Nat) (s : State) :
    Host.Outcome State Fault Refusal :=
  takeRequest (.escalationSet tag cls period) tag (answerEscalationSet tag cls period) s

/-! ### RESPONSE_SET (R140) -/

/-- The template of a response: 0 to 255, or NONE (R139, R140). -/
def needTemplate (o : Option OneOrNone) : Checked (Option Nat) := do
  match ← needField "template" o with
  | .none => .ok none
  | .one n => if n ≤ 255 then .ok (some n) else .error (badField "template")

/-- The entry that RESPONSE_SET gives, its fields in the order of R139 (R140). -/
def responseGiven (f : ResponseFields) : Checked Response := do
  let upstream ← needIn "hold-upstream" 0 3 f.upstream
  let inPlace ← needField "hold-in-place" f.inPlace
  let deenergise ← needField "de-energise" f.deenergise
  let template ← needTemplate f.template
  let priority ← needField "priority" f.priority
  let scope ← needField "scope_rule" f.scope
  let escalate ← needField "escalate" f.escalate
  let allClear ← needField "all-clear" f.allClear
  .ok { upstream := upstream, inPlace := inPlace, deenergise := deenergise, template := template, priority := priority,
        scope := scope, escalate := escalate, allClear := allClear }

/-- The answer to RESPONSE_SET (R140). -/
def answerResponseSet (tag : Nat) (f : ResponseFields) (s : State) : Checked State := do
  let c ← needField "class" f.cls
  let v ← needIn "severity" 1 4 f.severity
  let e ← responseGiven f
  require s.otherRoom (refuse .storeBusy)
  .ok ((s.placeOtherOp (.responseWrite c v e)).conclude.ok tag [])

/-- RESPONSE_SET (R140). -/
def execResponseSet (tag : Nat) (fields : ResponseFields) (s : State) : Host.Outcome State Fault Refusal :=
  takeRequest (.responseSet tag fields) tag (answerResponseSet tag fields) s

/-- An entry of the response table after its write, in the store and in the working copy alike (R62, R140). -/
def setResponse (c : IncClass) (v : Nat) (e : Response) (damaged : Bool) (s : State) : State :=
  { s with lst.responses := putResponse c v e damaged s.lst.responses,
           inm.responses := putResponse c v e damaged s.inm.responses }

/-- RESPONSE_WRITE_COMPLETION (R62, R140). -/
def execResponseWriteCompletion (o : StoreOutcome) (s : State) : Host.Outcome State Fault Refusal :=
  .next (match s.lst.inFlight with
    | some (.responseWrite c v e) =>
      let t := { s with lst.inFlight := none }
      let u := match o with
        | .done => setResponse c v e false t
        | .failed => setResponse c v Response.empty true t
      (u.storeNotice "RESPONSES" (.list [.word (classWord c), .num v]) (storeOutcomeWord o)).conclude
    | _ => s)

/-! ### INCIDENT_RAISE (R144) -/

/-- A given note code replaces the record's (R144, R145, R147). -/
def putNote (note : Option Nat) (i : Incident) : Incident := { i with note := note.orElse fun _ => i.note }

/-- The reply to INCIDENT_RAISE: the id, and what became of the raise (R144). -/
def raisedFields : Raised → List Field
  | .made id => [fld "id" (vNum id), fld "raise" (vWord "NEW")]
  | .repeated id => [fld "id" (vNum id), fld "raise" (vWord "REPEAT")]
  | .dropped => [fld "id" vAbsent, fld "raise" (vWord "DROPPED")]

/-- The record a raise has reached (R136). -/
def Raised.id? : Raised → Option Nat
  | .made id => some id
  | .repeated id => some id
  | .dropped => none

/-- Put the note code into the record a raise has reached (R144). -/
def noteRaise (r : Raised) (note : Option Nat) (s : State) : State :=
  match r.id? with
  | some id => s.modIncident id (putNote note)
  | none => s

/-- A location of one of the five forms, in range (R144). -/
def needLocation (o : Option Location) : Checked Location := do
  let l ← needField "location" o
  require (locationInRange l) (badField "location")
  .ok l

/-- The answer to INCIDENT_RAISE (R144). -/
def answerIncidentRaise (tag : Nat) (cls : Option IncClass) (severity : Option Nat) (location : Option Location)
    (note : Option Nat) (s : State) : Checked State := do
  let c ← needField "class" cls
  let v ← needIn "severity" 1 4 severity
  let l ← needLocation location
  let n ← maybeIn "note_code" 1 65535 note
  require (locationKnown s.desc l) (refuseField .notFound "location")
  let (r, t) := raiseIncident c v l .operator s
  .ok ((noteRaise r n t).conclude.ok tag (raisedFields r))

/-- INCIDENT_RAISE (R144). -/
def execIncidentRaise (tag : Nat) (cls : Option IncClass) (severity : Option Nat) (location : Option Location)
    (note : Option Nat) (s : State) : Host.Outcome State Fault Refusal :=
  takeRequest (.incidentRaise tag cls severity location note) tag (answerIncidentRaise tag cls severity location note) s

/-! ### INCIDENT_ACK and INCIDENT_CONTAIN (R145) -/

/-- An incident id in range with a record. -/
def needIncident (id note : Option Nat) (s : State) : Checked (Incident × Option Nat) := do
  let n ← needIn "id" 1 65535 id
  let c ← maybeIn "note_code" 1 65535 note
  let i ← need (s.incident? n) (refuse .notFound)
  .ok (i, c)

/-- The links of an incident as a list of values. -/
def vLinks (l : List IncLink) : Value := vAtoms (l.map linkAtom)

/-- The reply to INCIDENT_ACK and INCIDENT_CONTAIN: the phase, the links that remain, the unlinked actions (R145). -/
def phaseFields (id : Nat) (s : State) : List Field :=
  match s.incident? id with
  | some i => [fld "phase" (vWord (phaseWord i.phase)), fld "actions" (vLinks i.links), fld "unlinked_actions" (vNum i.unlinked)]
  | none => []

/-- The answer to INCIDENT_ACK (R145). -/
def answerIncidentAck (tag : Nat) (id note : Option Nat) (s : State) : Checked State := do
  let (i, n) ← needIncident id note s
  require (i.phase == .raised) (refuse .state)
  let ack : Incident → Incident := fun j =>
    putNote n { j with phase := .acknowledged, escalation := none, ackAt := some s.lmc.lineTime }
  let t := (s.modIncident i.id ack).incidentNotice i.id
  .ok (t.ok tag (phaseFields i.id t))

/-- INCIDENT_ACK (R145). -/
def execIncidentAck (tag : Nat) (id note : Option Nat) (s : State) : Host.Outcome State Fault Refusal :=
  takeRequest (.incidentAck tag id note) tag (answerIncidentAck tag id note) s

/-- The platforms of an incident's HOLD_PLATFORM links, ascending (log 11). -/
def platformLinks (l : List IncLink) : List Nat :=
  ascending (l.filterMap fun k => match k with
    | .holdPlatform p => some p
    | _ => none)

/-- The links that containment leaves (R145). -/
def keptLinks (l : List IncLink) : List IncLink :=
  l.filter fun k => match k with
    | .holdPlatform _ => false
    | _ => true

/-- An incident becomes CONTAINED: its linked upstream holds are lifted (R145). -/
def containIncident (i : Incident) (note : Option Nat) (s : State) : State :=
  let put : Incident → Incident := fun j =>
    putNote note { j with phase := .contained, containedAt := some s.lmc.lineTime, links := keptLinks j.links }
  let t := (s.modIncident i.id put).incidentNotice i.id
  forEach (platformLinks i.links) (fun p u => removePlatformHold p (.incident i.id) u) t

/-- The answer to INCIDENT_CONTAIN (R145). -/
def answerIncidentContain (tag : Nat) (id note : Option Nat) (s : State) : Checked State := do
  let (i, n) ← needIncident id note s
  require (i.phase == .acknowledged) (refuse .state)
  let t := (containIncident i n s).conclude
  .ok (t.ok tag (phaseFields i.id t))

/-- INCIDENT_CONTAIN (R145). -/
def execIncidentContain (tag : Nat) (id note : Option Nat) (s : State) : Host.Outcome State Fault Refusal :=
  takeRequest (.incidentContain tag id note) tag (answerIncidentContain tag id note) s

/-! ### INCIDENT_CLOSE (R147) -/

/-- The answer to INCIDENT_CLOSE (R147). -/
def answerIncidentClose (tag : Nat) (id note : Option Nat) (s : State) : Checked State := do
  let (i, n) ← needIncident id note s
  require i.isOpen (refuse .state)
  let (posted, t) := closeIncident i.id .operator (s.modIncident i.id (putNote n))
  .ok (t.conclude.ok tag [fld "id" (vNum i.id), fld "all-clear_posted" (vYes posted)])

/-- INCIDENT_CLOSE (R147). -/
def execIncidentClose (tag : Nat) (id note : Option Nat) (s : State) : Host.Outcome State Fault Refusal :=
  takeRequest (.incidentClose tag id note) tag (answerIncidentClose tag id note) s

/-! ### INCIDENT_RELEASE (R148) -/

/-- The link of an action that a host may lift, the platform, train, section or entry of it in the one field index and in range (R148;
log 4). -/
def releaseLink (a : ReleaseKind) (index : Option Nat) : Checked IncLink := do
  match a with
  | .holdPlatform => do .ok (.holdPlatform (← needIn "index" 0 63 index))
  | .holdTrain => do .ok (.holdTrain (← needIn "index" 1 999 index))
  | .deenergise => do .ok (.deenergise (← needIn "index" 0 23 index))
  | .announce => do .ok (.announce (← needIn "index" 1 255 index))

/-- Lift one action of an incident (R148). -/
def liftAction (id : Nat) (l : IncLink) (s : State) : State :=
  match l with
  | .holdPlatform p => removePlatformHold p (.incident id) s
  | .holdTrain t => removeTrainHold t (.incident id) s
  | .deenergise x => dropClaim id x s
  | .announce e => withdrawOf id e s
  | .escalate => s

/-- The answer to INCIDENT_RELEASE (R148). -/
def answerIncidentRelease (tag : Nat) (id : Option Nat) (action : Option ReleaseKind) (index : Option Nat) (s : State) :
    Checked State := do
  let n ← needIn "id" 1 65535 id
  let a ← needField "action" action
  let l ← releaseLink a index
  let i ← need (s.incident? n) (refuse .notFound)
  require i.isOpen (refuse .state)
  let drop : Incident → Incident := fun j => { j with links := j.links.filter (· != l) }
  let t := (((liftAction n l s).modIncident n drop).incidentNotice n).conclude
  .ok (t.ok tag [fld "link_removed" (vYes (i.links.contains l))])

/-- INCIDENT_RELEASE (R148). -/
def execIncidentRelease (tag : Nat) (id : Option Nat) (action : Option ReleaseKind) (index : Option Nat) (s : State) :
    Host.Outcome State Fault Refusal :=
  takeRequest (.incidentRelease tag id action index) tag (answerIncidentRelease tag id action index) s

/-! ### INCIDENT_RETIRE (R149) -/

/-- The answer to INCIDENT_RETIRE (R149). -/
def answerIncidentRetire (tag : Nat) (id : Option Nat) (s : State) : Checked State := do
  let (i, _) ← needIncident id none s
  require (i.phase == .closed) (refuse .state)
  let t := { s.incidentNotice i.id with inm.incidents := s.inm.incidents.filter (·.id != i.id) }
  .ok (t.ok tag [])

/-- INCIDENT_RETIRE (R149). -/
def execIncidentRetire (tag : Nat) (id : Option Nat) (s : State) : Host.Outcome State Fault Refusal :=
  takeRequest (.incidentRetire tag id) tag (answerIncidentRetire tag id) s

/-! ### INCIDENT_QUERY (R150) -/

/-- The number of records in a phase. -/
def State.inPhase (s : State) (p : Phase) : Nat := (s.inm.incidents.filter (·.phase == p)).length

def incidentTableLine (s : State) : String × List Field :=
  ("TABLE", [fld "raised" (vNum (s.inPhase .raised)), fld "acknowledged" (vNum (s.inPhase .acknowledged)),
    fld "contained" (vNum (s.inPhase .contained)), fld "closed" (vNum (s.inPhase .closed)),
    fld "free_places" (vNum (32 - s.inm.incidents.length)), fld "drop_count" (vNum s.inm.drops),
    fld "last_class" (vMaybeWord (s.inm.lastDrop.map fun d => classWord d.cls)),
    fld "last_location" ((s.inm.lastDrop.map fun d => Value.one (locationAtom d.location)).getD vAbsent),
    fld "last_time" (vMaybe (s.inm.lastDrop.map (·.time)))])

def incidentLine (s : State) (i : Incident) : String × List Field :=
  ("INCIDENT", [fld "id" (vNum i.id), fld "class" (vWord (classWord i.cls)), fld "severity" (vNum i.severity),
    fld "location" (.one (locationAtom i.location)), fld "phase" (vWord (phaseWord i.phase)),
    fld "origin" (.one (raiseOriginAtom i.origin)), fld "occurrence_count" (vNum i.count), fld "actions" (vLinks i.links),
    fld "unlinked_actions" (vNum i.unlinked), fld "note_code" (vMaybe i.note), fld "escalation_expiry" (vLeft s.now i.escalation),
    fld "raise_time" (vNum i.raisedAt), fld "last_occurrence_time" (vNum i.lastAt), fld "acknowledged_time" (vMaybe i.ackAt),
    fld "contained_time" (vMaybe i.containedAt), fld "closed_time" (vMaybe i.closedAt),
    fld "close_cause" (vMaybeWord (i.cause.map closeCauseWord))])

/-- The nine classes in the order of R134. -/
def allClasses : List IncClass :=
  [.trainStopped, .powerTrip, .powerDiscrepancy, .passengerAlarm, .platformFault, .obstruction, .fieldSilence,
   .trackDiscrepancy, .operator]

def responseLine (s : State) (c : IncClass) (v : Nat) : String × List Field :=
  let e := responseEntry s.inm.responses c v
  let damaged := ((findResponse s.inm.responses c v).map (·.damaged)).getD false
  ("RESPONSE", [fld "class" (vWord (classWord c)), fld "severity" (vNum v), fld "hold-upstream" (vNum e.upstream),
    fld "hold-in-place" (vYes e.inPlace), fld "de-energise" (vYes e.deenergise), fld "template" (vMaybe e.template),
    fld "priority" (vWord (priorityWord e.priority)), fld "scope_rule" (vWord (scopeRuleWord e.scope)),
    fld "escalate" (vYes e.escalate), fld "all-clear" (vYes e.allClear), fld "damaged_mark" (vYes damaged),
    fld "escalation_period" (vNum (s.inm.periods.get c))])

/-- The lines that follow the table line (R150). -/
def incidentLines (s : State) (what : Option What) : List (String × List Field) :=
  match what with
  | some .opened => (s.inm.incidents.filter Incident.isOpen).map (incidentLine s)
  | some .responses => allClasses.flatMap fun c => [1, 2, 3, 4].map (responseLine s c)
  | _ => s.inm.incidents.map (incidentLine s)

/-- The answer to INCIDENT_QUERY (R150). -/
def answerIncidentQuery (tag : Nat) (id : Option Nat) (what : Option What) (s : State) : Checked State := do
  match ← maybeIn "id" 1 65535 id with
  | some n => do
    let i ← need (s.incident? n) (refuse .notFound)
    .ok ((s.clearFlag .incident).replyBlock tag [incidentTableLine s, incidentLine s i])
  | none => .ok ((s.clearFlag .incident).replyBlock tag (incidentTableLine s :: incidentLines s what))

/-- INCIDENT_QUERY (R150). -/
def execIncidentQuery (tag : Nat) (id : Option Nat) (what : Option What) (s : State) : Host.Outcome State Fault Refusal :=
  takeRequest (.incidentQuery tag id what) tag (answerIncidentQuery tag id what) s

/-! ### ESCALATION_EXPIRY (R138) -/

/-- An incident's severity rises by one, its timer starts again, its notice is sent, and then its new response is applied (R138; log 74). -/
def raiseSeverity (i : Incident) (s : State) : State :=
  let up : Incident → Incident := fun j => { j with severity := j.severity + 1, escalation := some (s.escalationFrom j.cls) }
  applyResponse i.id ((s.modIncident i.id up).incidentNotice i.id)

/-- The escalation timer of an incident that is RAISED has expired (R138). -/
def escalationExpire (i : Incident) (s : State) : State :=
  if i.severity < 4 then raiseSeverity i s else s.modIncident i.id fun j => { j with escalation := none }

/-- ESCALATION_EXPIRY (R138). -/
def execEscalationExpiry (incident : Nat) (s : State) : Host.Outcome State Fault Refusal :=
  .next (match s.incident? incident with
    | some i => if i.phase == .raised && reached s.now i.escalation then (escalationExpire i s).conclude else s
    | none => s)

end Sys2Proof.Machine
end

