-- ==== Sys2Proof/Machine/LineModel.lean ====
section
/-!
DEFINITION. The line model's commands: loading a description (R11 to R15), the clock (R16 to R18), and the traffic-day boundary (R19).
-/

namespace Sys2Proof.Machine

/-! ### LINE_LOAD_BEGIN (R11) -/

/-- The answer to LINE_LOAD_BEGIN (R11). -/
def answerLoadBegin (tag : Nat) (s : State) : Checked State := do
  require (s.lmc.mode == .survey) (refuse .mode)
  require (s.lmc.session != .committing) (refuse .busy)
  let t := { s with lmc.staged := Description.empty, lmc.session := .opened }
  .ok (t.conclude.ok tag [fld "restarted" (vYes (s.lmc.session == .opened))])

/-- LINE_LOAD_BEGIN (R11). -/
def execLineLoadBegin (tag : Nat) (s : State) : Host.Outcome State Fault Refusal :=
  takeRequest (.lineLoadBegin tag) tag (answerLoadBegin tag) s

/-! ### LINE_LOAD_RECORD (R12) -/

/-- A list of numbers, each in a range. -/
def listIn (name : String) (lo hi most : Nat) (o : Option (List Nat)) : Checked (List Nat) :=
  match o with
  | some l => if l.length ≤ most ∧ l.all (fun n => decide (lo ≤ n ∧ n ≤ hi)) then .ok l else .error (badField name)
  | none => .error (badField name)

/-- The members of a list are distinct. -/
def distinct : List Nat → Bool
  | [] => true
  | x :: xs => !xs.contains x && distinct xs

/-- The reply to an accepted record: kind, key, and whether it replaced one (R12). -/
def State.recordOk (tag : Nat) (k : RecKind) (key : Value) (replaced : Bool) (s : State) : State :=
  s.ok tag [fld "kind" (vWord (recKindWord k)), fld "key" key, fld "replaced" (vYes replaced)]

def stageStation (tag : Nat) (r : RecordFields) (s : State) : Checked State := do
  let i ← needIn "index" 0 31 r.index
  let n ← needIn "name" 0 4095 r.name
  let t ← needField "terminal" r.terminal
  let u ← needIn "unit" 1 1022 r.unit
  let a ← needField "arrival" r.arrival
  let x : Station := { index := i, name := n, terminal := t, unit := u, arrival := a }
  let d := s.lmc.staged
  .ok ({ s with lmc.staged := { d with stations := insertBy (·.index) x d.stations } }.recordOk tag .station (vNum i)
    (d.station? i).isSome)

def stageSegment (tag : Nat) (r : RecordFields) (s : State) : Checked State := do
  let i ← needIn "index" 0 127 r.index
  let tr ← needField "track" r.track
  let su ← maybeIn "successor" 0 127 r.successor
  let al ← maybeIn "alternate" 0 127 r.alternate
  let p ← maybeIn "platform" 0 63 r.platform
  let x ← needIn "section" 0 23 r.section_
  let u ← needIn "unit" 1 1022 r.unit
  let no ← needIn "nominal" 10 9999 r.nominal
  let f ← needField "filter" (r.filter.bind filterOf?)
  let lo ← needIn "lower" 0 50 r.lower
  let up ← needIn "upper" 0 50 r.upper
  require (su != some i) (badField "successor")
  require (al.isNone || (su.isSome && al != su && al != some i)) (badField "alternate")
  let g : Segment :=
    { index := i, track := tr, successor := su, alternate := al, platform := p, sec := x, unit := u, nominal := no, filter := f,
      lower := lo, upper := up }
  let d := s.lmc.staged
  .ok ({ s with lmc.staged := { d with segments := insertBy (·.index) g d.segments } }.recordOk tag .segment (vNum i)
    (d.segment? i).isSome)

def stageSection (tag : Nat) (r : RecordFields) (s : State) : Checked State := do
  let i ← needIn "index" 0 23 r.index
  let f ← listIn "feeders" 0 47 3 r.feeders
  let k ← needField "keep-live" r.keepLive
  let a ← needField "auto-reclose" r.autoReclose
  require (distinct f) (badField "feeders")
  let x : SectionDesc := { index := i, feeders := f, keepLive := k, autoReclose := a }
  let d := s.lmc.staged
  .ok ({ s with lmc.staged := { d with sections := insertBy (·.index) x d.sections } }.recordOk tag .powerSection (vNum i)
    (d.section? i).isSome)

def stageSubstation (tag : Nat) (r : RecordFields) (s : State) : Checked State := do
  let i ← needIn "index" 0 11 r.index
  let u ← needIn "unit" 1 1022 r.unit
  let c ← needField "contributions" r.contributions
  require (c.all fun q => decide (q.1 ≤ 23 ∧ q.2 ≤ 8)) (badField "contributions")
  require (distinct (c.map (·.1))) (badField "contributions")
  let x : Substation := { index := i, unit := u, contributions := c }
  let d := s.lmc.staged
  .ok ({ s with lmc.staged := { d with substations := insertBy (·.index) x d.substations } }.recordOk tag .substation (vNum i)
    (d.substations.any (·.index == i)))

def stageBreaker (tag : Nat) (r : RecordFields) (s : State) : Checked State := do
  let i ← needIn "index" 0 47 r.index
  let k ← needField "breaker_kind" r.breakerKind
  let u ← needIn "unit" 1 1022 r.unit
  let n ← needIn "number" 1 16 r.number
  let l ← listIn "sections" 0 23 24 r.sections
  require (distinct l && decide (l.length = if k = .tie then 2 else 1)) (badField "sections")
  let x : BreakerDesc := { index := i, kind := k, unit := u, number := n, sections := l }
  let d := s.lmc.staged
  .ok ({ s with lmc.staged := { d with breakers := insertBy (·.index) x d.breakers } }.recordOk tag .breaker (vNum i)
    (d.breaker? i).isSome)

def stageUnit (tag : Nat) (r : RecordFields) (s : State) : Checked State := do
  let a ← needIn "address" 1 1022 r.address
  let k ← needField "unit_kind" r.unitKind
  let l ← needIn "silence_limit" 2 60 r.silence
  let f ← needField "silence-incident_flag" r.silenceIncident
  let d := s.lmc.staged
  require ((d.unit? a).isSome || decide (d.units.length < 96)) (refuse .full)
  let x : UnitDesc := { address := a, kind := k, silence := l, silenceIncident := f }
  .ok ({ s with lmc.staged := { d with units := insertBy (·.address) x d.units } }.recordOk tag .unit (vNum a) (d.unit? a).isSome)

/-- A PARAMS record takes the place of the one parameters record (R10, R12). Its reply writes the key as absent and replaced=YES
(log 37). -/
def stageParams (tag : Nat) (r : RecordFields) (s : State) : Checked State := do
  let b ← maybeIn "boundary" 0 86399 r.boundary
  let n ← maybeIn "number_base" 0 3996 r.numberBase
  let de ← maybeIn "delay_template" 0 255 r.delayTemplate
  let ar ← maybeIn "arrival_template" 0 255 r.arrivalTemplate
  let ac ← maybeIn "all-clear_template" 0 255 r.allClearTemplate
  let p := s.lmc.staged.params
  let q : LineParams :=
    { boundary := b.getD p.boundary, numberBase := n.getD p.numberBase, delayTemplate := de.getD p.delayTemplate,
      arrivalTemplate := ar.getD p.arrivalTemplate, allClearTemplate := ac.getD p.allClearTemplate }
  .ok ({ s with lmc.staged.params := q }.recordOk tag .params vAbsent true)

/-- The answer to LINE_LOAD_RECORD (R12). -/
def answerLoadRecord (tag : Nat) (r : RecordFields) (s : State) : Checked State := do
  require (s.lmc.session == .opened) (refuse .state)
  match ← needField "kind" r.kind with
  | .station => stageStation tag r s
  | .segment => stageSegment tag r s
  | .powerSection => stageSection tag r s
  | .substation => stageSubstation tag r s
  | .breaker => stageBreaker tag r s
  | .unit => stageUnit tag r s
  | .params => stageParams tag r s

/-- LINE_LOAD_RECORD (R12). -/
def execLineLoadRecord (tag : Nat) (r : RecordFields) (s : State) : Host.Outcome State Fault Refusal :=
  takeRequest (.lineLoadRecord tag r) tag (answerLoadRecord tag r) s

/-! ### LINE_LOAD_COMMIT (R13) -/

/-- A record at fault: its kind, its key and the field (R13). -/
def atFault (k : RecKind) (key : Nat) (field : String) : Refused :=
  ⟨.badField, [fld "kind" (vWord (recKindWord k)), fld "index" (vNum key), fld "field" (vWord field)]⟩

/-- Check each record of a list, in its order. -/
def checkEach (l : List α) (f : α → Checked Unit) : Checked Unit :=
  match l with
  | [] => .ok ()
  | x :: xs => do
    f x
    checkEach xs f

def unitIs (d : Description) (a : Nat) (k : UnitKind) : Bool := (d.unit? a).any (·.kind == k)

/-- Check 1: every reference resolves (R13). -/
def checkReferences (d : Description) : Checked Unit := do
  checkEach d.stations fun x => require (unitIs d x.unit .station) (atFault .station x.index "unit")
  checkEach d.segments fun x => do
    require (x.successor.all fun g => (d.segment? g).isSome) (atFault .segment x.index "successor")
    require (x.alternate.all fun g => (d.segment? g).isSome) (atFault .segment x.index "alternate")
    require (x.platform.all fun p => (d.station? (platformStation p)).isSome) (atFault .segment x.index "platform")
    require (d.section? x.sec).isSome (atFault .segment x.index "section")
    require (unitIs d x.unit .track) (atFault .segment x.index "unit")
  checkEach d.sections fun x => require (x.feeders.all fun b => (d.breaker? b).isSome) (atFault .powerSection x.index "feeders")
  checkEach d.substations fun x => do
    require (unitIs d x.unit .power) (atFault .substation x.index "unit")
    require (x.contributions.all fun q => (d.section? q.1).isSome) (atFault .substation x.index "contributions")
  checkEach d.breakers fun x => do
    require (unitIs d x.unit .power) (atFault .breaker x.index "unit")
    require (x.sections.all fun y => (d.section? y).isSome) (atFault .breaker x.index "sections")

/-- A TURNBACK or DEPOT segment. -/
def offTrack (t : Track) : Bool := t == .turnback || t == .depot

/-- A segment may join another (R13, check 2). -/
def joins (d : Description) (x : Segment) (next : Option Nat) : Bool :=
  next.all fun g => (d.segment? g).all fun y => x.track == y.track || offTrack x.track || offTrack y.track

/-- Check 2: joins (R13). -/
def checkJoins (d : Description) : Checked Unit :=
  checkEach d.segments fun x => do
    require (joins d x x.successor) (atFault .segment x.index "successor")
    require (joins d x x.alternate) (atFault .segment x.index "alternate")

/-- Check 3: platforms (R13). The later of two segments that name one platform is at fault (log 25). -/
def checkPlatforms (d : Description) : Checked Unit :=
  checkEach d.segments fun x =>
    match x.platform with
    | none => .ok ()
    | some p => do
      require x.successor.isSome (atFault .segment x.index "successor")
      require (!(d.segments.any fun y => decide (y.index < x.index) && y.platform == some p) &&
        (x.track == if p % 2 = 0 then Track.up else Track.down)) (atFault .segment x.index "platform")

/-- How many records name a unit, by its kind (R13, check 4). -/
def coverage (d : Description) (u : UnitDesc) : Bool :=
  match u.kind with
  | .track => let n := (d.unitSegments u.address).length; decide (1 ≤ n ∧ n ≤ 8)
  | .station => decide ((d.stations.filter (·.unit == u.address)).length = 1)
  | .power => decide ((d.substations.filter (·.unit == u.address)).length = 1)

/-- Check 4: units (R13). -/
def checkUnits (d : Description) : Checked Unit := do
  checkEach d.breakers fun x =>
    require (!(d.breakers.any fun y => decide (y.index < x.index) && y.unit == x.unit && y.number == x.number))
      (atFault .breaker x.index "number")
  checkEach d.units fun u => require (coverage d u) (atFault .unit u.address "kind")

/-- Check 5: feeders (R13). A FEEDER that the section it feeds does not list is at fault itself, in its field sections (log 25). -/
def checkFeeders (d : Description) : Checked Unit := do
  checkEach d.sections fun x =>
    require (!x.feeders.isEmpty && x.feeders.all fun b => d.feederSection? b == some x.index)
      (atFault .powerSection x.index "feeders")
  checkEach d.substations fun sub =>
    require (sub.contributions.all fun q => q.2 == 0 ||
        (d.breakers.filter fun b => b.kind == .feeder && b.unit == sub.unit && b.sections.contains q.1).length == 1)
      (atFault .substation sub.index "contributions")
  checkEach d.breakers fun b =>
    require (b.kind == .tie || (d.feederSection? b.index).any fun x => (d.section? x).any fun sc => sc.feeders.contains b.index)
      (atFault .breaker b.index "sections")

/-- Check 6: no permit is open (R13). -/
def checkPermits (s : State) : Checked Unit :=
  match leastBy (·.sec) (s.tpc.permits.filter Permit.isOpen) with
  | some p => .error ⟨.permitOpen, [fld "index" (vNum p.sec)]⟩
  | none => .ok ()

/-- The answer to LINE_LOAD_COMMIT (R13). -/
def answerLoadCommit (tag : Nat) (s : State) : Checked State := do
  require (s.lmc.session == .opened) (refuse .state)
  let d := s.lmc.staged
  checkReferences d
  checkJoins d
  checkPlatforms d
  checkUnits d
  checkFeeders d
  checkPermits s
  require s.otherRoom (refuse .storeBusy)
  .ok ((({ s with lmc.session := .committing }.placeOtherOp (.lineDescription d)).conclude).ok tag [])

/-- LINE_LOAD_COMMIT (R13). -/
def execLineLoadCommit (tag : Nat) (s : State) : Host.Outcome State Fault Refusal :=
  takeRequest (.lineLoadCommit tag) tag (answerLoadCommit tag) s

/-! ### The tables of a description (R14, R41, R85, R94, R99, R100, R157, R164) -/

/-- The segment table of a description: every segment UNKNOWN (R41). -/
def freshSegments (d : Description) : List SegRec := d.segments.map fun g => { index := g.index, occ := .unknown, changed := none }

/-- The platform records of a description: empty hold sets and no last departure (R83, R85). -/
def freshPlats (d : Description) : List PlatRec := d.platforms.map fun p => { index := p, holds := [], lastDeparture := none }

/-- The learned run times of a description at their nominal values (R94). -/
def freshLearned (d : Description) : List Learned := d.segments.map fun g => { segment := g.index, tenths := g.nominal }

/-- A section record after a start or a replacement (R99). -/
def freshSection (isolated : List Nat) (x : SectionDesc) : SecRec :=
  { index := x.index, state := if isolated.contains x.index then .isolated else .unknown, voltage := .unknown, lockout := false,
    reclose := none, span := none, seq := none, lastSeq := none, budget := 0, window := none, claims := [] }

/-- A breaker record after a start or a replacement (R100). -/
def freshBreaker (b : BreakerDesc) : BrkRec :=
  { index := b.index, state := .unknown, outcome := none, position := none, voltage := none, owed := none }

/-- The zones of a description: every one UNREACHABLE (R157). -/
def freshZones (d : Description) : List Zone := d.stations.map fun x => { station := x.index, state := .unreachable, mic := none }

/-- The display states of a description: all absent (R164). -/
def freshDisplays (d : Description) : List Display := d.platforms.map fun p => { platform := p, last := none, refresh := none }

/-- The train tracker and the service regulator on a new description (R14, R41, R42, R75). -/
def freshService (d : Description) (s : State) : State :=
  { s with
    trk.segs := freshSegments d, trk.trains := [], srg.trips := [], srg.plats := freshPlats d }

/-- The traction power controller on a description, with the permits reloaded (R99, R100, R131); the sections that so become UNKNOWN raise
no SECTION notice (logs 27, 68). -/
def freshPower (d : Description) (permits : List Permit) (s : State) : State :=
  { s with
    tpc.sections := d.sections.map (freshSection (permits.map (·.sec))), tpc.breakers := d.breakers.map freshBreaker,
    tpc.queue := [], tpc.grants := [], tpc.isolations := [], tpc.permits := permits, tpc.reports := [] }

/-- The incident manager emptied; its id counter is not (R14, R133). -/
def freshIncidents (s : State) : State :=
  { s with inm.incidents := [], inm.drops := 0, inm.lastDrop := none }

/-- The announcement scheduler on a description (R153, R157, R164); the entries that go and the zones that become UNREACHABLE raise no
ANNOUNCE notice (logs 27, 68). -/
def freshAnnouncements (d : Description) (s : State) : State :=
  { s with ans.entries := [], ans.zones := freshZones d, ans.displays := freshDisplays d }

/-! ### LINE_DESCRIPTION_COMPLETION (R14, R15, R62) -/

/-- A try on the line runs to its end, and its outcome is dropped (R40). -/
def dropTry : LineUse → LineUse
  | .part f _ => .part f true
  | l => l

/-- A description has been written: it becomes the stored and the working one, and every block drops what it built on the old one
(R14). It is one change, with the STORE notice and, where the latch status changes, that of the mode; what is emptied or made anew raises
no TRAIN, SECTION or ANNOUNCE notice (log 68). -/
def replaceDescription (d : Description) (s : State) : State :=
  let s1 :=
    { s with
      lst.lineRegion := .whole d, lst.storedActive := none, lst.storedScheduled := none, lst.active := none,
      lst.scheduled := none, lmc.working := d, lmc.session := .closed, lmc.staged := Description.empty,
      srg.learned := freshLearned d, wlc.line := dropTry s.wlc.line }
  let s2 := freshAnnouncements d (freshIncidents (freshPower d [] (freshService d s1)))
  let s3 := (rebuildLink s2).storeNotice "LINE_DESCRIPTION" vAbsent "DONE"
  s3.reportHeld

/-- The description could not be written (R15). -/
def failDescription (s : State) : State :=
  { s with lst.lineRegion := .damaged, lmc.session := .closed, lmc.staged := Description.empty }.storeNotice
    "LINE_DESCRIPTION" vAbsent "FAILED"

/-- LINE_DESCRIPTION_COMPLETION: the operation in flight ends (R14, R15, R62). -/
def execLineDescriptionCompletion (o : StoreOutcome) (s : State) : Host.Outcome State Fault Refusal :=
  .next (match s.lst.inFlight with
    | some (.lineDescription d) =>
      let t := { s with lst.inFlight := none }
      (match o with
        | .done => replaceDescription d t
        | .failed => failDescription t).conclude
    | _ => s)

/-! ### The traffic-day boundary (R19, R73) -/

/-- The boundary: the scheduled slot, if any, becomes active, and the trip state table is rebuilt (R19, R73, R76). -/
def takeBoundary (s : State) : State :=
  let t := match s.lst.scheduled with
    | some i => s.setIndices (some i) none
    | none => s
  rebuildTrips t

/-- TRAFFIC_DAY_BOUNDARY: line time has reached the boundary by advancing, with the time-set flag set (R19). -/
def execTrafficDayBoundary (s : State) : Host.Outcome State Fault Refusal :=
  .next (if s.lmc.boundaryDue then (takeBoundary { s with lmc.boundaryDue := false }).conclude else s)

/-! ### SECOND_TICK (R16, R17, R77) -/

/-- The next second of line time (R17). -/
def nextSecond (t : Nat) : Nat := if t + 1 < daySeconds then t + 1 else 0

/-- SECOND_TICK: the running count and line time advance by one second (R16, R17); line time reaching the boundary makes the boundary
due (R19). -/
def execSecondTick (s : State) : Host.Outcome State Fault Refusal :=
  let t := nextSecond s.lmc.lineTime
  .next { s with
    lmc.count := s.lmc.count + 1, lmc.lineTime := t,
    lmc.boundaryDue := s.lmc.boundaryDue || (s.lmc.timeSet && t == s.boundary) }

/-! ### TIME_SET (R18) -/

/-- The distance forward from one line time to another (R18). -/
def forward (old new : Nat) : Nat := (new + daySeconds - old) % daySeconds

/-- A TIME_SET takes the boundary (R18). -/
def takesBoundary (s : State) (new : Nat) : Bool :=
  let d := forward s.lmc.lineTime new
  let b := forward s.lmc.lineTime s.boundary
  s.lmc.timeSet && decide (1 ≤ d ∧ d ≤ 43200) && decide (1 ≤ b ∧ b ≤ d)

/-- The answer to TIME_SET (R18, R77); the survey readiness is computed as the time-set flag is set (R175; log 76). -/
def answerTimeSet (tag : Nat) (time : Option Nat) (s : State) : Checked State := do
  let n ← needIn "time" 0 86399 time
  let taken := takesBoundary s n
  let t := { s with lmc.lineTime := n, lmc.timeSet := true }.updateReadiness
  let u := if taken then takeBoundary t else t
  .ok ((lapseTrips u).conclude.ok tag
    [fld "time" (vNum n), fld "boundary" (vWord (if taken then "TAKEN" else "NOT_TAKEN"))])

/-- TIME_SET (R18). -/
def execTimeSet (tag : Nat) (time : Option Nat) (s : State) : Host.Outcome State Fault Refusal :=
  takeRequest (.timeSet tag time) tag (answerTimeSet tag time) s

end Sys2Proof.Machine
end

