-- ==== Sys2Proof/Machine/LinkLine.lean ====
section
/-!
DEFINITION. The control link: a line that arrives (R180), and the refusal of a line that spells no request (R181).
-/

namespace Sys2Proof.Machine

/-! ### LINE_ARRIVAL (R180) -/

/-- The tag a line carries, or 0 when it is not a number from 1 to 9,999 (R180). -/
def lineTag (line : Text) : Nat :=
  match lineParts line with
  | t :: _ => (parseTag t).getD 0
  | [] => 0

/-- A line without the carriage return just before its line feed, which is dropped (R179). -/
def dropReturn (chars : Text) : Text := if chars.getLast? = some '\r' then chars.dropLast else chars

/-- What the CLP does with a line as it arrives, its ending taken off (R180). -/
def judgeLine (line : Text) (s : State) : State :=
  if 1024 < line.length then s.send (.refused 0 .tooLong [])
  else if line.isEmpty then s
  else if !checkOk line then s.send (.refused 0 .check [])
  else if 8 ≤ s.clp.inbound.length then s.send (.refused (lineTag line) .linkBusy [])
  else { s with clp.inbound := s.clp.inbound ++ [line] }

/-- LINE_ARRIVAL: the characters before the line feed. A line that arrives between the reply to RESTART and the start is discarded (R173, R180). -/
def execLineArrival (chars : Text) (s : State) : Host.Outcome State Fault Refusal :=
  .next (if s.clp.restartDue then s else judgeLine (dropReturn chars) s)

/-! ### UNKNOWN_REQUEST (R181) -/

/-- The refusal of a line that fails the parsing checks (R181). The field at fault is named as the line has it, before its first equals sign:
by an empty name where the line has none, and whole however long it is (log 67). -/
def faultReply : LineFault → OutLine
  | .tag => .refused 0 .badField [fld "field" (vWord "tag")]
  | .unknownRequest tag => .refused tag .unknownRequest []
  | .field tag name => .refused tag .badField [fld "field" (vWord (String.ofList name))]

/-- UNKNOWN_REQUEST: the line at the head of the queue spells no request (R181). -/
def execUnknownRequest (s : State) : Host.Outcome State Fault Refusal :=
  .next (if s.clp.restartDue then s
    else
      match s.clp.inbound with
      | l :: _ =>
        match readLine l with
        | .refused f => (s.send (faultReply f)).popLine
        | .request _ => s
      | [] => s)

end Sys2Proof.Machine
end

