-- ==== Sys2Proof/Machine/ModeCommands.lean ====
section
/-!
DEFINITION. The line mode commands: the request of a mode (R168), the end of the survey (R176, R177), RESTART (R173), the query of the
line state (R178), and the two starts (R172).
-/

namespace Sys2Proof.Machine

/-! ### MODE_REQUEST (R168 to R170) -/

/-- Record a given escalation flag; a change of it raises a MODE notice (R168, R170). -/
def setEscalation (flag : Option Bool) (s : State) : State :=
  match flag with
  | none => s
  | some b => if s.lmc.escalation = b then s else { s with lmc.escalation := b }.modeNotice

/-- A target of TRAFFIC, REDUCED, NIGHT_LIVE or NIGHT_HELD (R168, R176). -/
def needTarget (target : Option Mode) : Checked Mode := do
  let m ← needField "target" target
  require (m != .survey) (badField "target")
  .ok m

/-- The number of RUNNING trips (R168). -/
def State.runningTrips (s : State) : Nat := (s.srg.trips.filter (·.status == .running)).length

/-- A refusal with TRAINS_OUT and the number of trips or trains, which the refusal of SURVEY_END gives too (R168, R176; log 56). -/
def trainsOut (n : Nat) : Refused := ⟨.trainsOut, [fld "count" (vNum n)]⟩

/-- Checks 4 to 7 of MODE_REQUEST (R168). -/
def checkMode (target : Mode) (s : State) : Checked Unit := do
  let old := s.lmc.mode
  require (old != .nightHeld || target == .nightLive) (refuse .state)
  if old == .nightLive && isPassenger target then do
    require (!latched s.lmc.heldCount) ⟨.held, [fld "held_count" (vNum s.lmc.heldCount)]⟩
    require s.lst.active.isSome (refuseField .state "slot")
    require s.lmc.timeSet (refuseField .state "time")
  else .ok ()
  require (!(isPassenger old && isNight target) || s.runningTrips == 0) (trainsOut s.runningTrips)
  let out := (s.trainsInState .inService).length
  require (target != .nightHeld || out == 0) (trainsOut out)

/-- The reply to an accepted MODE_REQUEST (R168, R169). -/
def modeFields (changed : Bool) (causes : List String) (s : State) : List Field :=
  [fld "mode" (vWord (modeWord s.lmc.mode)), fld "changed" (vYes changed), fld "escalate" (vYes s.lmc.escalation),
   fld "demotion_causes" (vAtoms (causes.map Atom.word))]

/-- The demotion causes of a target (R169). -/
def State.demotionCauses (s : State) (target : Mode) : List String := if target == .nightHeld then s.demotions else []

/-- The answer to MODE_REQUEST (R168). -/
def answerModeRequest (tag : Nat) (target : Option Mode) (flag : Option Bool) (s : State) : Checked State := do
  let m ← needTarget target
  require (s.lmc.mode != .survey) (refuse .mode)
  if m = s.lmc.mode then
    let t := setEscalation flag s
    .ok (t.ok tag (modeFields false [] t))
  else do
    checkMode m s
    let t := setEscalation flag s
    let new := t.demoted m
    let changed := new != t.lmc.mode
    let u := (when changed (modeChange new .request none) t).conclude
    .ok (u.ok tag (modeFields changed (t.demotionCauses m) u))

/-- MODE_REQUEST (R168). -/
def execModeRequest (tag : Nat) (target : Option Mode) (escalate : Option Bool) (s : State) :
    Host.Outcome State Fault Refusal :=
  takeRequest (.modeRequest tag target escalate) tag (answerModeRequest tag target escalate) s

/-! ### SURVEY_END (R176, R177) -/

/-- Checks 3 to 7 of SURVEY_END (R176). -/
def checkSurveyEnd (target : Mode) (s : State) : Checked Unit := do
  require s.descriptionValid (refuseField .state "description")
  require (s.lmc.session == .closed) (refuseField .state "session")
  match s.wlc.registry.find? (·.state == .unheard) with
  | some u => .error ⟨.state, [fld "address" (vNum u.address)]⟩
  | none => .ok ()
  if isPassenger target then do
    match s.tpc.sections.find? (·.state == .unknown) with
    | some r => .error ⟨.state, [fld "section" (vNum r.index)]⟩
    | none => .ok ()
    require s.lst.active.isSome (refuseField .state "slot")
    require s.lmc.timeSet (refuseField .state "time")
  else .ok ()
  let out := (s.trainsInState .inService).length
  require (target != .nightHeld || out == 0) (trainsOut out)

/-- The answer to SURVEY_END (R176, R177). -/
def answerSurveyEnd (tag : Nat) (target : Option Mode) (s : State) : Checked State := do
  let m ← needTarget target
  require (s.lmc.mode == .survey) (refuse .mode)
  checkSurveyEnd m s
  let t := rebuildTrips s
  let u := (modeChange (t.demoted m) .surveyEnd none t).conclude
  .ok (u.ok tag [fld "mode" (vWord (modeWord u.lmc.mode)), fld "demotion_causes" (vAtoms ((t.demotionCauses m).map Atom.word))])

/-- SURVEY_END (R176, R177). -/
def execSurveyEnd (tag : Nat) (target : Option Mode) (s : State) : Host.Outcome State Fault Refusal :=
  takeRequest (.surveyEnd tag target) tag (answerSurveyEnd tag target) s

/-! ### RESTART (R173) -/

/-- The answer to RESTART: the reply goes first, and the start is to follow (R173). -/
def answerRestart (tag : Nat) (s : State) : Checked State :=
  .ok { s.ok tag [] with clp.restartDue := true }

/-- RESTART (R173). -/
def execRestart (tag : Nat) (s : State) : Host.Outcome State Fault Refusal :=
  takeRequest (.restart tag) tag (answerRestart tag) s

/-! ### STATUS_QUERY (R178) -/

def statusModeLine (s : State) : String × List Field :=
  let c := s.lmc.lastChange
  ("MODE", [fld "mode" (vWord (modeWord s.lmc.mode)), fld "escalate" (vYes s.lmc.escalation),
    fld "latch_status" (vWord (latchWord s.lmc.heldCount)), fld "held_count" (vNum s.lmc.heldCount),
    fld "from" (vMaybeWord (c.old.map modeWord)), fld "to" (vWord (modeWord c.new)), fld "cause" (vWord (modeCauseWord c.cause)),
    fld "line_time" (vNum c.time), fld "incident_id" (vMaybe c.incident)])

def statusClockLine (s : State) : String × List Field :=
  ("CLOCK", [fld "line_time" (vNum s.lmc.lineTime), fld "time-set_flag" (vYes s.lmc.timeSet), fld "running_count" (vNum s.now),
    fld "traffic-day_boundary" (vNum s.boundary), fld "next_boundary" (if s.lmc.timeSet then vNum (daySeconds - s.nowOffset) else vAbsent)])

/-- The fields of the start record (R172). -/
def startFields (r : StartRecord) : List Field :=
  [fld "cause" (vWord (startCauseWord r.cause)), fld "running_count" (vNum r.count), fld "line_time" (vNum r.lineTime),
   fld "time-set_flag" (vYes r.timeSet), fld "restarts" (vNum r.restarts)]

/-- The number of units in a state. -/
def State.unitsIn (s : State) (st : UnitState) : Nat := (s.wlc.registry.filter (·.state == st)).length

def statusSurveyLine (s : State) : String × List Field :=
  ("SURVEY", [fld "survey_readiness" (vMaybeWord (s.lmc.readiness.map readinessWord)), fld "units_unheard" (vNum (s.unitsIn .unheard)),
    fld "units_live" (vNum (s.unitsIn .live)), fld "units_stale" (vNum (s.unitsIn .stale)),
    fld "sections_unknown" (vNum (s.tpc.sections.filter (·.state == .unknown)).length),
    fld "segments_unknown" (vNum (s.trk.segs.filter (·.occ == .unknown)).length)])

def statusNightLine (s : State) : String × List Field :=
  ("NIGHT", [fld "running_trips" (vNum s.runningTrips), fld "in_service" (vNum (s.trainsInState .inService).length),
    fld "positioning" (vNum (s.trainsInState .positioning).length), fld "stabled" (vNum (s.trainsInState .stabled).length),
    fld "lost" (vNum (s.trainsInState .lost).length), fld "open_incidents" (vNum s.seriousIncidents.length)])

def statusStoreLine (s : State) : String × List Field :=
  ("STORE", [fld "description_status" (vWord (regionWord s.lst.lineRegion)), fld "active_slot" (vNone s.lst.active),
    fld "scheduled_slot" (vNone s.lst.scheduled)])

/-- The answer to STATUS_QUERY (R178). -/
def answerStatusQuery (tag : Nat) (s : State) : Checked State :=
  .ok ((s.clearFlag .mode).replyBlock tag
    [statusModeLine s, statusClockLine s, ("START", startFields s.lmc.startRecord), statusSurveyLine s, statusNightLine s,
     statusStoreLine s])

/-- STATUS_QUERY (R178). -/
def execStatusQuery (tag : Nat) (s : State) : Host.Outcome State Fault Refusal :=
  takeRequest (.statusQuery tag) tag (answerStatusQuery tag) s

/-! ### The two starts (R172, R173) -/

/-- The working description that a start reads (R1). -/
def startDescription : LineRegion → Description
  | .whole d => d
  | _ => Description.empty

/-- The learned run times after a start: kept, or at their nominal values, and clamped to the stored limits (R94, R96). -/
def startLearned (kept : List Learned) (d : Description) : List Learned :=
  d.segments.map fun g =>
    let l := ((kept.find? (·.segment == g.index)).map (·.tenths)).getD g.nominal
    { segment := g.index, tenths := learnClamp g l }

/-- The permit that a record of the store gives (R131). -/
def reloadPermit (time : Nat) (r : PermitRecord) : Permit :=
  { place := r.place, id := r.id, sec := r.sec, holder := r.holder, state := .issued, outcome := none, store := .present,
    eraseFailed := false, requested := r.requested, issued := some time, ended := none }

/-- A try of the part is cut short; the frame of a unit goes on (R40). -/
def startLine : LineUse → LineUse
  | .part _ _ => .free
  | l => l

/-- Steps 1 to 7 of a start, over the state that the cause of the start keeps (R172). `kept` holds the learned run times kept. -/
def startBlocks (stored : Bool) (kept : List Learned) (s : State) : State :=
  let lst := startStore stored s.lst
  let d := startDescription lst.lineRegion
  let change : ModeChange := { old := none, new := .survey, cause := .start, time := s.lmc.lineTime, incident := none }
  let s1 :=
    { s with
      lst := lst, lmc.working := d, lmc.session := .closed, lmc.staged := Description.empty, lmc.mode := .survey,
      lmc.escalation := false, lmc.heldCount := 0, lmc.lastChange := change, lmc.readiness := none,
      wlc.line := startLine s.wlc.line, wlc.drivesMark := false, srg.learned := startLearned kept d, inm.lastId := 0,
      inm.responses := workingResponses lst.responses, ans.templates := workingTemplates lst.templates }
  let s2 := freshPower d (lst.permits.map (reloadPermit s.lmc.lineTime)) (freshService d s1)
  rebuildLink (rebuildTrips (freshAnnouncements d (freshIncidents s2)))

/-- The first region or entry found DAMAGED, in the order of log 27 (R63). -/
def firstDamaged (l : Lst) : Option (String × Value) :=
  if l.lineRegion == .damaged then some ("LINE_DESCRIPTION", vAbsent)
  else
    match (List.range 4).find? fun i => (l.slots[i]?.map (·.state)) == some .damaged with
    | some i => some ("SLOT", vNum i)
    | none =>
      match l.templates.find? (·.damaged), l.responses.find? (·.damaged) with
      | some p, _ => some ("TEMPLATES", vNum p.index)
      | none, some r => some ("RESPONSES", .list [.word (classWord r.cls), .num r.severity])
      | none, none => if l.indicesDamaged then some ("INDICES", vAbsent) else none

/-- The lines of a start: the MODE notice with the start record, then the STORE and PERMIT notices where they are raised (R63, R131,
R172). -/
def startNotices (s : State) : State :=
  let t := s.notice .mode (s.modeSummary ++ startFields s.lmc.startRecord)
  let u := match firstDamaged t.lst with
    | some (region, entry) => t.storeNotice region entry "DAMAGED"
    | none => t
  if u.tpc.permits.isEmpty then u
  else u.notice .permit [fld "event" (vWord "RELOADED"), fld "count" (vNum u.tpc.permits.length)]

/-- A start: the blocks come up, the start record and the survey readiness are set, the control link is emptied, and the lines of the
start are sent after those in `sent` (R172). -/
def start (cause : StartCause) (restarts : Nat) (stored : Bool) (kept : List Learned) (sent : List OutLine) (s : State) : State :=
  let t := startBlocks stored kept s
  let record : StartRecord :=
    { cause := cause, count := s.now, lineTime := s.lmc.lineTime, timeSet := s.lmc.timeSet, restarts := restarts }
  let u :=
    { t with
      lmc.startRecord := record, lmc.readiness := t.readinessNow,
      clp := { inbound := [], flags := NoticeFlags.clear, restartDue := false, sent := sent } }
  (startNotices u).polls

/-- The state that POWER_ON starts from: nothing but the store's regions is kept, and the commands that wait (R16, R17, R172). -/
def State.powered (s : State) : State :=
  { State.reset with lst := s.lst, wlc.line := s.wlc.line, wlc.seqCounter := 0, pending := s.pending }

/-- POWER_ON: `stored` is the store's outcome of an operation that was in flight (R63, R172). -/
def execPowerOn (stored : Bool) (s : State) : Host.Outcome State Fault Refusal :=
  .next (start .powerOn 0 stored [] [] s.powered)

/-- RESTART_START: the start that follows the reply to RESTART (R172, R173). -/
def execRestartStart (stored : Bool) (s : State) : Host.Outcome State Fault Refusal :=
  .next (if s.clp.restartDue then
      start .restart (saturate 65535 s.lmc.startRecord.restarts) stored s.srg.learned s.clp.sent s
    else s)

end Sys2Proof.Machine
end

