-- ==== Sys2Proof/Machine/PermitCommands.lean ====
section
/-!
DEFINITION. The permit commands: the request (R121, R122), the cancel (R129), the surrender (R130), the query (R132), and the store's
completions of permit writes and erases (R127, R130).
-/

namespace Sys2Proof.Machine

/-! ### PERMIT_REQUEST (R121, R122) -/

/-- The segments that refuse a request: a head or tail of a train, or an unidentified occupancy (R122). -/
def State.blockedSegments (s : State) (x : Nat) : List Nat :=
  (s.desc.segmentsIn x).filter fun g =>
    s.occ g == .unidentified || s.trk.trains.any fun t => t.head == g || t.tail == some g

/-- The open permits of the table. -/
def State.allOpenPermits (s : State) : List Permit := s.tpc.permits.filter Permit.isOpen

/-- The ENDED permit with the earliest ended time of the traffic day, the lowest place of several (R121). -/
def State.earliestEnded (s : State) : Option Permit :=
  leastBy (fun p => (p.ended.map s.offset).getD 0) (s.tpc.permits.filter fun p => !p.isOpen)

/-- A place for a new permit, and the table without the ENDED permit dropped for it (R121). -/
def State.permitPlace (s : State) : Option (Nat × State) :=
  match (List.range 16).find? fun n => !(s.tpc.permits.any (·.place == n)) with
  | some n => some (n, s)
  | none =>
    s.earliestEnded.map fun p => (p.place, { s with tpc.permits := s.tpc.permits.filter (·.place != p.place) })

/-- A new permit (R121, R122). -/
def newPermit (s : State) (place id x holder : Nat) (st : PermitState) : Permit :=
  { place := place, id := id, sec := x, holder := holder, state := st, outcome := none, store := .absent,
    eraseFailed := false, requested := s.lmc.lineTime, issued := none, ended := none }

/-- The permit takes its place in the table, with its PERMIT notice (R121). -/
def addPermit (p : Permit) (s : State) : State :=
  ({ s with tpc.permits := insertBy (·.place) p s.tpc.permits, tpc.permitLast := p.id }).permitNotice p.id

/-- An isolation is begun in CLEARING (R123). -/
def beginIsolation (x : Nat) (s : State) : State :=
  { s with tpc.isolations := insertBy (·.sec) { sec := x, phase := .clearing } s.tpc.isolations }

/-- A section becomes ISOLATING for its first permit (R122). -/
def isolateSection (x : Nat) (s : State) : State := changeSection x .isolating (clearLockout x (abandonSeq x s))

/-- What a new permit meets in its section (R122). -/
inductive PermitCase where
  | record
  | join (st : PermitState)
  | begin_ (isolate : Bool)
deriving DecidableEq, Repr

/-- The row of the table of R122 for a section; UNKNOWN has been refused. -/
def State.permitCase (s : State) (r : SecRec) : PermitCase :=
  match s.isolation? r.index with
  | some i => .join (if i.phase = .clearing then .requested else .isolating)
  | none =>
    match r.state with
    | .isolated => .record
    | .isolating => .record
    | .held => if s.permitOpen r.index then .record else .begin_ false
    | _ => .begin_ true

/-- Make the permit and do what follows for its section (R122). -/
def makePermit (c : PermitCase) (place id x holder : Nat) (s : State) : State :=
  match c with
  | .record =>
    let p := newPermit s place id x holder .requested
    recordPermit p { s with tpc.permits := insertBy (·.place) p s.tpc.permits, tpc.permitLast := id }
  | .join st => addPermit (newPermit s place id x holder st) s
  | .begin_ isolate =>
    when isolate (isolateSection x) (beginIsolation x (addPermit (newPermit s place id x holder .requested) s))

/-- The answer to PERMIT_REQUEST (R122). -/
def answerPermitRequest (tag : Nat) (sec holder : Option Nat) (s : State) : Checked State := do
  let x ← needIn "section" 0 23 sec
  let h ← needIn "holder_code" 1 65535 holder
  let r ← need (s.sec? x) (refuse .notFound)
  require (s.lmc.mode != .survey) (refuse .mode)
  require (r.state != .unknown) (refuse .state)
  require (decide ((s.openPermits x).length < 4) && decide (s.allOpenPermits.length < 16)) (refuse .full)
  match s.blockedSegments x with
  | g :: _ => .error ⟨.trainsPresent, [fld "index" (vNum g)]⟩
  | [] => do
    let (place, t) ← need s.permitPlace (refuse .full)
    let id := nextId 255 (t.tpc.permits.map (·.id)) t.tpc.permitLast
    let u := (makePermit (s.permitCase r) place id x h t).conclude
    let unseen := (s.desc.segmentsIn x).filter fun g => s.occ g == .unknown
    .ok (u.ok tag [fld "id" (vNum id), fld "state" (vMaybeWord ((u.permit? id).map fun p => permitStateWord p.state)),
      fld "unknown_segments" (vNum unseen.length)])

/-- PERMIT_REQUEST (R122). -/
def execPermitRequest (tag : Nat) (sec holder : Option Nat) (s : State) : Host.Outcome State Fault Refusal :=
  takeRequest (.permitRequest tag sec holder) tag (answerPermitRequest tag sec holder) s

/-! ### PERMIT_CANCEL (R129) -/

/-- A permit id in range with a permit in the table (R129, R130). -/
def needPermit (id : Option Nat) (s : State) : Checked Permit := do
  let n ← needIn "id" 1 255 id
  need (s.permit? n) (refuse .notFound)

/-- The isolation of a section is stopped when no permit is left that it works for (R129). -/
def stopIsolation (x : Nat) (s : State) : State :=
  match s.isolation? x with
  | none => s
  | some i =>
    if (s.openPermits x).any Permit.isolated then s
    else when (i.phase = .clearing) (placeOpens x .isolation) (s.dropIsolation x)

/-- The answer to PERMIT_CANCEL (R129). -/
def answerPermitCancel (tag : Nat) (id : Option Nat) (s : State) : Checked State := do
  let p ← needPermit id s
  require p.isolated (refuse .state)
  let t := (afterPermit p.sec (stopIsolation p.sec (endPermit p.id .cancelled s))).conclude
  .ok (t.ok tag [fld "id" (vNum p.id), fld "section_state" (vMaybeWord ((t.secState? p.sec).map sectionStateWord))])

/-- PERMIT_CANCEL (R129). -/
def execPermitCancel (tag : Nat) (id : Option Nat) (s : State) : Host.Outcome State Fault Refusal :=
  takeRequest (.permitCancel tag id) tag (answerPermitCancel tag id) s

/-! ### PERMIT_SURRENDER (R130) -/

/-- The answer to PERMIT_SURRENDER (R130). -/
def answerPermitSurrender (tag : Nat) (id holder : Option Nat) (s : State) : Checked State := do
  let n ← needIn "id" 1 255 id
  let h ← needIn "holder_code" 1 65535 holder
  let p ← need (s.permit? n) (refuse .notFound)
  require (h == p.holder) (refuse .holder)
  require (p.state == .issued) (refuse .state)
  let t := setPermit n (fun q => { q with state := .surrendering, store := .erasing, eraseFailed := false }) s
  .ok ((t.placePermitOp (.permitErase p.place)).conclude.ok tag [fld "id" (vNum n)])

/-- PERMIT_SURRENDER (R130). -/
def execPermitSurrender (tag : Nat) (id holder : Option Nat) (s : State) : Host.Outcome State Fault Refusal :=
  takeRequest (.permitSurrender tag id holder) tag (answerPermitSurrender tag id holder) s

/-! ### PERMIT_QUERY (R132) -/

def permitTableLine (s : State) : String × List Field :=
  ("TABLE", [fld "open_permits" (vNum s.allOpenPermits.length), fld "ended_permits" (vNum (s.tpc.permits.length - s.allOpenPermits.length)),
    fld "free_places" (vNum (16 - s.tpc.permits.length)), fld "permit_operations" (vNum s.lst.permitList.length)])

def permitLine (p : Permit) : String × List Field :=
  ("PERMIT", [fld "id" (vNum p.id), fld "place" (vNum p.place), fld "section" (vNum p.sec),
    fld "state" (vWord (permitStateWord p.state)), fld "outcome" (vMaybeWord (p.outcome.map permitOutcomeWord)),
    fld "failure_detail" (permitDetail p.outcome), fld "store_record" (vWord (storeMarkWord p.store)),
    fld "last_erase" (if p.eraseFailed then vWord "FAILED" else vAbsent), fld "requested" (vNum p.requested),
    fld "issued" (vMaybe p.issued), fld "ended" (vMaybe p.ended)])

def isoPhaseWord : IsoPhase → String
  | .clearing => "CLEARING"
  | .opening _ => "OPENING"
  | .confirming _ => "CONFIRMING"

/-- The breakers in the waiting set of an isolation. -/
def Isolation.waiting (i : Isolation) : List Nat :=
  match i.phase with
  | .opening w => w
  | _ => []

/-- The confirm expiry of an isolation in CONFIRMING. -/
def Isolation.expiry (i : Isolation) : Option Nat :=
  match i.phase with
  | .confirming e => some e
  | _ => none

/-- The trains and unidentified occupancies that keep CLEARING waiting (R132). -/
def State.clearingCount (s : State) (x : Nat) : Nat :=
  match s.isolation? x with
  | some i => if i.phase = .clearing then (s.trainsIn x).length + (s.unidentifiedIn x).length else 0
  | none => 0

def permitSectionLine (s : State) (r : SecRec) : String × List Field :=
  let i := s.isolation? r.index
  ("SECTION", [fld "section" (vNum r.index), fld "state" (vWord (sectionStateWord r.state)),
    fld "isolation_phase" (vMaybeWord (i.map fun j => isoPhaseWord j.phase)), fld "waiting_set" (vNums ((i.map Isolation.waiting).getD [])),
    fld "confirm_expiry" (vLeft s.now (i.bind Isolation.expiry)), fld "grants" (vNum (s.tpc.grants.filter (·.sec == r.index)).length),
    fld "occupied" (vNum (s.clearingCount r.index))])

/-- The permits in ascending id. -/
def byId (l : List Permit) : List Permit := l.foldl (fun acc p => insertBy (·.id) p acc) []

/-- The ENDED permits among those listed leave the table (R132). -/
def dropListed (l : List Permit) (s : State) : State :=
  { s with tpc.permits := s.tpc.permits.filter fun p => p.isOpen || !(l.map (·.id)).contains p.id }

/-- The reply of PERMIT_QUERY: the table line, a section line or none, and the permits listed, the ENDED ones dropped (R132). -/
def permitReply (tag : Nat) (sec : List (String × List Field)) (l : List Permit) (s : State) : State :=
  dropListed l ((s.clearFlag .permit).replyBlock tag (permitTableLine s :: sec ++ (byId l).map permitLine))

/-- The answer to PERMIT_QUERY (R132). -/
def answerPermitQuery (tag : Nat) (id sec : Option Nat) (s : State) : Checked State := do
  let i ← maybeIn "id" 1 255 id
  let x ← maybeIn "section" 0 23 sec
  match i with
  | some n => do
    let p ← need (s.permit? n) (refuse .notFound)
    .ok (permitReply tag [] [p] s)
  | none =>
    match x with
    | some n => do
      let r ← need (s.sec? n) (refuse .notFound)
      .ok (permitReply tag [permitSectionLine s r] (s.tpc.permits.filter (·.sec == n)) s)
    | none => .ok (permitReply tag [] s.tpc.permits s)

/-- PERMIT_QUERY (R132). -/
def execPermitQuery (tag : Nat) (id sec : Option Nat) (s : State) : Host.Outcome State Fault Refusal :=
  takeRequest (.permitQuery tag id sec) tag (answerPermitQuery tag id sec) s

/-! ### Completions of permit operations (R62, R127, R130) -/

/-- A permit write has completed DONE (R62, R127). -/
def permitWritten (r : PermitRecord) (s : State) : State :=
  let t := { s with lst.permits := insertBy (·.place) r s.lst.permits }
  let u := setPermit r.id (fun p => { p with state := .issued, store := .present, issued := some s.lmc.lineTime }) t
  if u.secIs r.sec .isolating then changeSection r.sec .isolated u else u

/-- A permit write has FAILED: the place is free and the permit ends (R62, R127). -/
def permitWriteFailed (r : PermitRecord) (s : State) : State :=
  let t := s.modPermit r.id fun p => { p with store := .absent }
  afterPermit r.sec (endPermit r.id .failedStore (t.storeNotice "PERMITS" (vNum r.place) "FAILED"))

/-- PERMIT_WRITE_COMPLETION (R62, R127). -/
def execPermitWriteCompletion (o : StoreOutcome) (s : State) : Host.Outcome State Fault Refusal :=
  .next (match s.lst.inFlight with
    | some (.permitWrite r) =>
      let t := { s with lst.inFlight := none }
      (match o with
        | .done => permitWritten r t
        | .failed => permitWriteFailed r t).conclude
    | _ => s)

/-- A permit erase has completed DONE: the place is free and the permit ends SURRENDERED (R62, R130). -/
def permitErased (n : Nat) (s : State) : State :=
  let t := { s with lst.permits := s.lst.permits.filter (·.place != n) }
  match t.tpc.permits.find? (·.place == n) with
  | some p => afterPermit p.sec (endPermit p.id .surrendered (t.modPermit p.id fun q => { q with store := .absent }))
  | none => t

/-- A permit erase has FAILED: the permit is ISSUED again (R62, R130). -/
def permitEraseFailed (n : Nat) (s : State) : State :=
  let t := s.storeNotice "PERMITS" (vNum n) "FAILED"
  match t.tpc.permits.find? (·.place == n) with
  | some p => setPermit p.id (fun q => { q with state := .issued, store := .present, eraseFailed := true }) t
  | none => t

/-- PERMIT_ERASE_COMPLETION (R62, R130). -/
def execPermitEraseCompletion (o : StoreOutcome) (s : State) : Host.Outcome State Fault Refusal :=
  .next (match s.lst.inFlight with
    | some (.permitErase n) =>
      let t := { s with lst.inFlight := none }
      (match o with
        | .done => permitErased n t
        | .failed => permitEraseFailed n t).conclude
    | _ => s)

end Sys2Proof.Machine
end

