-- ==== Sys2Proof/Machine/PowerCommands.lean ====
section
/-!
DEFINITION. The traction power controller's commands: energising (R115), de-energising (R116), breaker commands (R117), releasing the
night hold (R119), the query (R120), and the timers of R104, R105, R108, R111, R112, R114 and R125.
-/

namespace Sys2Proof.Machine

/-! ### ENERGISE and ENERGISE_ALL (R115) -/

/-- A section index in range with a record (R115, R116, R119). -/
def needSection (sec : Option Nat) (s : State) : Checked SecRec := do
  let x ← needIn "section" 0 23 sec
  need (s.sec? x) (refuse .notFound)

/-- The WAITING entries of lower section index. -/
def State.entriesAhead (s : State) (x : Nat) : Nat :=
  (s.tpc.sections.filter fun r => decide (r.index < x) && s.seqWaiting r.index).length

/-- The answer to ENERGISE (R115). -/
def answerEnergise (tag : Nat) (sec : Option Nat) (s : State) : Checked State := do
  let r ← needSection sec s
  require (s.lmc.mode != .survey) (refuse .mode)
  require (!s.permitOpen r.index) (refuse .permitOpen)
  require (r.state != .held) (refuse .held)
  require ((r.state == .dead || r.state == .tripped) && r.seq.isNone) (refuse .state)
  let t := (placeSeq r.index .operator (clearLockout r.index s)).conclude
  .ok (t.ok tag [fld "section" (vNum r.index), fld "entries_ahead" (vNum (t.entriesAhead r.index))])

/-- ENERGISE (R115). -/
def execEnergise (tag : Nat) (sec : Option Nat) (s : State) : Host.Outcome State Fault Refusal :=
  takeRequest (.energise tag sec) tag (answerEnergise tag sec) s

/-- The answer to ENERGISE_ALL (R115). Passed over for their claims are the DEAD sections without an entry that their claims alone keep from
one (log 59). -/
def answerEnergiseAll (tag : Nat) (s : State) : Checked State := do
  require (s.lmc.mode != .survey) (refuse .mode)
  let dead := s.tpc.sections.filter fun r => r.state == .dead && r.seq.isNone
  let taken := (dead.filter (·.claims.isEmpty)).map (·.index)
  let passed := (dead.filter fun r => !r.claims.isEmpty).map (·.index)
  let t := (forEach taken (fun x u => placeSeq x .all u) s).conclude
  .ok (t.ok tag [fld "placed" (vNum taken.length), fld "sections" (vNums taken), fld "passed_over" (vNums passed)])

/-- ENERGISE_ALL (R115). -/
def execEnergiseAll (tag : Nat) (s : State) : Host.Outcome State Fault Refusal :=
  takeRequest (.energiseAll tag) tag (answerEnergiseAll tag) s

/-! ### DEENERGISE (R116) -/

/-- The breakers of a section for which an OPEN is to be placed or owed; one whose OPEN is in the queue or owed already is not among them
(R103, R116; log 73). -/
def State.toOpen (s : State) (x : Nat) : List Nat := (s.notOpen x).filter fun b => !s.openComing b

/-- The answer to DEENERGISE (R116). -/
def answerDeenergise (tag : Nat) (sec : Option Nat) (s : State) : Checked State := do
  let r ← needSection sec s
  require (inReach r.state) (refuse .state)
  .ok ((deenergiseNow r.index s).conclude.ok tag [fld "breakers" (vNums (s.toOpen r.index))])

/-- DEENERGISE (R116). -/
def execDeenergise (tag : Nat) (sec : Option Nat) (s : State) : Host.Outcome State Fault Refusal :=
  takeRequest (.deenergise tag sec) tag (answerDeenergise tag sec) s

/-! ### BREAKER_COMMAND (R117) -/

/-- The checks of a CLOSE (R117). -/
def checkClose (b : Nat) (s : State) : Checked Unit := do
  let fed := s.desc.sectionsFed b
  require (s.lmc.mode != .survey) (refuse .mode)
  require (!(fed.any s.permitOpen)) (refuse .permitOpen)
  require (!(fed.any fun x => s.secIs x .held)) (refuse .held)
  require (fed.all (fun x => s.secIs x .energised) && s.brkOpen b && (s.command? b).isNone) (refuse .state)
  require s.cmdRoom (refuse .full)

/-- The answer to BREAKER_COMMAND (R117). -/
def answerBreakerCommand (tag : Nat) (breaker : Option Nat) (action : Option Action) (s : State) : Checked State := do
  let b ← needIn "breaker" 0 47 breaker
  let a ← needField "action" action
  require (s.brk? b).isSome (refuse .notFound)
  match a with
  | .closing => do
    checkClose b s
    .ok ((pushCmd b .closing .operator s).conclude.ok tag [fld "breaker" (vNum b), fld "command" (vWord "PLACED")])
  | .opening => do
    require (!s.openComing b) (refuse .state)
    let t := placeOpen b .operator s
    let owed := ((t.brk? b).bind (·.owed)).isSome
    .ok (t.conclude.ok tag [fld "breaker" (vNum b), fld "command" (vWord (if owed then "OWED" else "PLACED"))])

/-- BREAKER_COMMAND (R117). -/
def execBreakerCommand (tag : Nat) (breaker : Option Nat) (action : Option Action) (s : State) :
    Host.Outcome State Fault Refusal :=
  takeRequest (.breakerCommand tag breaker action) tag (answerBreakerCommand tag breaker action) s

/-! ### HOLD_RELEASE (R119) -/

/-- The answer to HOLD_RELEASE; for one section its reply carries the section (R119; log 56). -/
def answerHoldRelease (tag : Nat) (sec : Option OneOrAll) (s : State) : Checked State := do
  match ← needField "section" sec with
  | .one n =>
    let r ← needSection (some n) s
    require (!s.permitOpen r.index) (refuse .permitOpen)
    require (r.state == .held) (refuse .state)
    .ok ((changeSection r.index .dead s).conclude.ok tag [fld "section" (vNum r.index)])
  | .all =>
    let held := (s.tpc.sections.filter (·.state == .held)).map (·.index)
    let free := held.filter fun x => !s.permitOpen x
    let kept := held.filter s.permitOpen
    let t := (forEach free (fun x u => changeSection x .dead u) s).conclude
    .ok (t.ok tag [fld "released" (vNums free), fld "held" (vNums kept)])

/-- HOLD_RELEASE (R119). -/
def execHoldRelease (tag : Nat) (sec : Option OneOrAll) (s : State) : Host.Outcome State Fault Refusal :=
  takeRequest (.holdRelease tag sec) tag (answerHoldRelease tag sec) s

/-! ### SECTION_QUERY (R120) -/

/-- The first line of a SECTION_QUERY reply (R120). -/
def powerLine (s : State) : String × List Field :=
  ("POWER", [fld "running" (vNum s.runningSeqs.length),
    fld "waiting" (vNum (s.tpc.sections.filter fun r => s.seqWaiting r.index).length), fld "commands" (vNum s.tpc.queue.length),
    fld "owed_opens" (vNum (s.tpc.breakers.filter (·.owed.isSome)).length), fld "held_sections" (vNum s.heldSections)])

def sequenceFields (e : Option SeqEntry) : List Field :=
  [fld "sequence_status" (vMaybeWord (e.map fun q => if q.running.isNone then "WAITING" else "RUNNING")),
   fld "sequence_origin" (vMaybeWord (e.map fun q => seqOriginWord q.origin))]

def sectionLine (s : State) (r : SecRec) : String × List Field :=
  ("SECTION", [fld "section" (vNum r.index), fld "state" (vWord (sectionStateWord r.state)), fld "lockout" (vYes r.lockout),
    fld "voltage" (vWord (voltageWord r.voltage)), fld "budget" (vNum r.budget), fld "tokens_in_use" (vNum (s.tokensUsed r.index)),
    fld "regeneration_window" (if r.window.isSome then vLeft s.now r.window else vWord "CLOSED"), fld "reclose_expiry" (vLeft s.now r.reclose),
    fld "lockout_span_expiry" (vLeft s.now r.span)] ++ sequenceFields r.seq ++
    [fld "last_sequence_outcome" (seqOutcomeValue r.lastSeq), fld "de-energise_claims" (vNums r.claims)])

/-- The line of a breaker (R120). Where an OPEN and a CLOSE of it are both in the queue, the phase and origin are of the first (log 58). -/
def breakerLine (s : State) (r : BrkRec) : String × List Field :=
  let c := s.command? r.index
  ("BREAKER", [fld "breaker" (vNum r.index), fld "state" (vWord (breakerStateWord r.state)),
    fld "last_outcome" (vMaybeWord (r.outcome.map outcomeWord)), fld "reported_position" (vMaybeWord (r.position.map positionWord)),
    fld "reported_voltage" (vMaybeWord (r.voltage.map fun v => if v then "PRESENT" else "ABSENT")), fld "open-owed_mark" (vYes r.owed.isSome),
    fld "phase" (vMaybeWord (c.map fun d => cmdPhaseWord d.phase)), fld "origin" (vMaybeWord (c.map fun d => cmdOriginWord d.origin))])

def grantLine (s : State) (g : Grant) : String × List Field :=
  ("GRANT", [fld "train" (vNum g.train), fld "section" (vNum g.sec), fld "tokens" (vNum g.tokens),
    fld "start_window" (vLeft s.now (some g.expiry))])

/-- The answer to SECTION_QUERY (R120). -/
def answerSectionQuery (tag : Nat) (sec : Option Nat) (what : Option What) (s : State) : Checked State := do
  let t := s.clearFlag .section_
  match sec with
  | some n =>
    let r ← needSection (some n) s
    let breakers := s.tpc.breakers.filter fun b => (s.desc.sectionsFed b.index).contains r.index
    let grants := s.tpc.grants.filter (·.sec == r.index)
    .ok (t.replyBlock tag (powerLine s :: sectionLine s r :: breakers.map (breakerLine s) ++ grants.map (grantLine s)))
  | none =>
    match what with
    | some .breakers => .ok (t.replyBlock tag (s.tpc.breakers.map (breakerLine s)))
    | some .grants => .ok (t.replyBlock tag (s.tpc.grants.map (grantLine s)))
    | _ => .ok (t.replyBlock tag (powerLine s :: s.tpc.sections.map (sectionLine s)))

/-- SECTION_QUERY (R120). -/
def execSectionQuery (tag : Nat) (sec : Option Nat) (what : Option What) (s : State) : Host.Outcome State Fault Refusal :=
  takeRequest (.sectionQuery tag sec what) tag (answerSectionQuery tag sec what) s

/-! ### Timers (R104, R105, R108, R111, R112, R114, R125) -/

/-- START_WINDOW_EXPIRY: the train's grant is released (R111). -/
def execStartWindowExpiry (n : Nat) (s : State) : Host.Outcome State Fault Refusal :=
  .next (match s.grant? n with
    | some g => if g.expiry ≤ s.now then (releaseGrant n s).conclude else s
    | none => s)

/-- REGENERATION_WINDOW_EXPIRY: the window closes (R112). -/
def execRegenerationWindowExpiry (x : Nat) (s : State) : Host.Outcome State Fault Refusal :=
  .next (match s.sec? x with
    | some r => if reached s.now r.window then (s.modSec x fun q => { q with window := none }).conclude else s
    | none => s)

/-- SELECT_WINDOW_EXPIRY (R104, R105). -/
def execSelectWindowExpiry (b : Nat) (s : State) : Host.Outcome State Fault Refusal :=
  .next (match s.tpc.queue.find? fun c => c.breaker == b && c.windowOver s.now with
    | some c => (selectWindowExpire c s).conclude
    | none => s)

/-- A MOVING breaker's operate limit has been reached (R105). -/
def BreakerState.limitOver (now : Nat) : BreakerState → Bool
  | .moving _ limit _ => decide (limit ≤ now)
  | _ => false

/-- OPERATE_LIMIT_EXPIRY (R105). -/
def execOperateLimitExpiry (b : Nat) (s : State) : Host.Outcome State Fault Refusal :=
  .next (match s.brkState? b with
    | some st => if st.limitOver s.now then (operateLimitExpire b s).conclude else s
    | none => s)

/-- RECLOSE_DELAY_EXPIRY (R108). -/
def execRecloseDelayExpiry (x : Nat) (s : State) : Host.Outcome State Fault Refusal :=
  .next (match s.sec? x with
    | some r => if reached s.now r.reclose then (recloseExpire x s).conclude else s
    | none => s)

/-- LOCKOUT_SPAN_EXPIRY: the span becomes absent (R108). -/
def execLockoutSpanExpiry (x : Nat) (s : State) : Host.Outcome State Fault Refusal :=
  .next (match s.sec? x with
    | some r => if reached s.now r.span then (s.modSec x fun q => { q with span := none }).conclude else s
    | none => s)

/-- VOLTAGE_CONFIRM_EXPIRY: the sequence fails (R114). -/
def execVoltageConfirmExpiry (x : Nat) (s : State) : Host.Outcome State Fault Refusal :=
  .next (match s.sec? x with
    | some r => if r.confirmOver s.now then (failSeq x .failedVoltage s).conclude else s
    | none => s)

/-- ISOLATION_CONFIRM_EXPIRY: the isolation fails (R125). -/
def execIsolationConfirmExpiry (x : Nat) (s : State) : Host.Outcome State Fault Refusal :=
  .next (match s.isolation? x with
    | some i => if i.confirmOver s.now then (isolationConfirmExpire x s).conclude else s
    | none => s)

end Sys2Proof.Machine
end

