-- ==== Sys2Proof/Machine/TrainCommands.lean ====
section
/-!
DEFINITION. The train tracker's requests (R54 to R58) and the stall timer's expiry (R53).
-/

namespace Sys2Proof.Machine

/-! ### STALL_LIMIT_SET (R54) and STALL_EXPIRY (R53) -/

/-- The answer to STALL_LIMIT_SET; a timer whose new expiry has passed expires at once (R54). -/
def answerStallLimit (tag : Nat) (limit : Option Nat) (s : State) : Checked State := do
  let n ← needIn "limit" 30 600 limit
  let t := { s with trk.stallLimit := n }
  let late := (t.trk.trains.filter (stallDue t)).map (·.number)
  .ok ((forEach late stallExpire t).conclude.ok tag [fld "limit" (vNum n)])

/-- STALL_LIMIT_SET (R54). -/
def execStallLimitSet (tag : Nat) (limit : Option Nat) (s : State) : Host.Outcome State Fault Refusal :=
  takeRequest (.stallLimitSet tag limit) tag (answerStallLimit tag limit) s

/-- STALL_EXPIRY (R53). -/
def execStallExpiry (n : Nat) (s : State) : Host.Outcome State Fault Refusal :=
  .next (match s.train? n with
    | some t => if stallDue s t then (stallExpire n s).conclude else s
    | none => s)

/-! ### TRAIN_SET_NUMBER (R55) -/

/-- A segment that the host may name: OCCUPIED_UNIDENTIFIED (R55). -/
def needUnidentified (g : Nat) (s : State) : Checked Unit :=
  require (s.occ g == .unidentified) ⟨.state, [fld "index" (vNum g)]⟩

/-- The answer to TRAIN_SET_NUMBER (R55). When the segment does not follow the tail, the refusal names the segment (log 49). -/
def answerSetNumber (tag : Nat) (segment number tail : Option Nat) (s : State) : Checked State := do
  let g ← needIn "segment" 0 127 segment
  let t ← maybeIn "tail" 0 127 tail
  let n ← needIn "number" 1 999 number
  require (s.desc.segment? g).isSome (refuse .notFound)
  require (t.all fun h => (s.desc.segment? h).isSome) (refuse .notFound)
  needUnidentified g s
  match t with
  | some h => do
    needUnidentified h s
    require (s.desc.follows g h) ⟨.state, [fld "index" (vNum g)]⟩
  | none => .ok ()
  require ((s.train? n).all (·.state == .lost)) (refuseField .state "number")
  require ((s.train? n).isSome || decide (s.trk.trains.length < 48)) (refuse .full)
  let kind := if (s.train? n).isSome then Placing.recovery else .creation
  let u := ((place n g t kind s).trainNotice n).conclude
  let r := u.train? n
  .ok (u.ok tag [fld "number" (vNum n), fld "state" (vMaybeWord (r.map fun r => trainStateWord r.state)),
    fld "head" (vMaybe (r.map (·.head))), fld "tail" (vMaybe (r.bind (·.tail)))])

/-- TRAIN_SET_NUMBER (R55). -/
def execTrainSetNumber (tag : Nat) (segment number tail : Option Nat) (s : State) : Host.Outcome State Fault Refusal :=
  takeRequest (.trainSetNumber tag segment number tail) tag (answerSetNumber tag segment number tail) s

/-! ### TRAIN_SET_DRAW (R56) -/

/-- A train that has a record. -/
def needTrain (n : Nat) (s : State) : Checked Train := need (s.train? n) (refuse .notFound)

/-- The answer to TRAIN_SET_DRAW; its reply carries the number and the draw class (R56; log 56). -/
def answerSetDraw (tag : Nat) (number draw : Option Nat) (s : State) : Checked State := do
  let n ← needIn "number" 1 999 number
  let c ← needIn "draw_class" 1 3 draw
  let _ ← needTrain n s
  let t := s.modTrain n fun r => { r with draw := c }
  .ok ((t.trainNotice n).ok tag [fld "number" (vNum n), fld "draw_class" (vNum c)])

/-- TRAIN_SET_DRAW (R56). -/
def execTrainSetDraw (tag : Nat) (number draw : Option Nat) (s : State) : Host.Outcome State Fault Refusal :=
  takeRequest (.trainSetDraw tag number draw) tag (answerSetDraw tag number draw) s

/-! ### TRAIN_WITHDRAW (R57) -/

/-- The answer to TRAIN_WITHDRAW; its reply carries the number (R57; log 56). -/
def answerTrainWithdraw (tag : Nat) (number : Option Nat) (s : State) : Checked State := do
  let n ← needIn "number" 1 999 number
  let t ← needTrain n s
  require (t.state == .stabled || t.state == .lost) (refuse .state)
  .ok ((withdrawTrain t s).conclude.ok tag [fld "number" (vNum n)])

/-- TRAIN_WITHDRAW (R57). -/
def execTrainWithdraw (tag : Nat) (number : Option Nat) (s : State) : Host.Outcome State Fault Refusal :=
  takeRequest (.trainWithdraw tag number) tag (answerTrainWithdraw tag number) s

/-! ### TRAIN_QUERY (R58) -/

/-- The authority on a train line; of the time issued the line time alone (R58, R88; log 51). -/
def authorityValue (a : Option Authority) : List Field :=
  [fld "authority" (vMaybe (a.map (·.id))), fld "authority_state" (vMaybeWord (a.map fun a => authStateWord a.state)),
   fld "time_issued" (vMaybe (a.map (·.issuedTime)))]

def trainLine (now : Nat) (t : Train) : String × List Field :=
  ("TRAIN", [fld "number" (vNum t.number), fld "state" (vWord (trainStateWord t.state)), fld "head" (vNum t.head),
    fld "tail" (vMaybe t.tail), fld "movement_mark" (vNum (now - t.movement)), fld "stall_mark" (vMaybe t.stallMark),
    fld "draw_class" (vNum t.draw), fld "trip" (vMaybe t.trip), fld "next_timing_point" (vNum t.nextPoint),
    fld "deviation" (vInt t.deviation), fld "hold_set" (vAtoms (t.holds.map holdAtom))] ++ authorityValue t.authority)

def occupancyFields : Occupancy → List Field
  | .clear => [fld "occupancy" (vWord "CLEAR"), fld "train" vAbsent]
  | .occupied n => [fld "occupancy" (vWord "OCCUPIED"), fld "train" (vNum n)]
  | .unidentified => [fld "occupancy" (vWord "OCCUPIED_UNIDENTIFIED"), fld "train" vAbsent]
  | .unknown => [fld "occupancy" (vWord "UNKNOWN"), fld "train" vAbsent]

def segmentLine (g : SegRec) : String × List Field :=
  ("SEGMENT", [fld "segment" (vNum g.index)] ++ occupancyFields g.occ ++ [fld "time_of_last_change" (vMaybe g.changed)])

/-- The first line of a TRAIN_QUERY reply (R58). -/
def trainsLine (s : State) : String × List Field :=
  ("TRAINS", [fld "train_records" (vNum s.trk.trains.length), fld "stall_limit" (vNum s.trk.stallLimit)])

/-- The answer to TRAIN_QUERY (R58). -/
def answerTrainQuery (tag : Nat) (number : Option Nat) (what : Option What) (s : State) : Checked State := do
  let n ← maybeIn "number" 1 999 number
  let t := s.clearFlag .train
  match n with
  | some k =>
    let r ← needTrain k s
    .ok (t.replyBlock tag [trainsLine s, trainLine s.now r])
  | none =>
    match what with
    | some .segments => .ok (t.replyBlock tag (s.trk.segs.map segmentLine))
    | _ => .ok (t.replyBlock tag (trainsLine s :: s.trk.trains.map (trainLine s.now)))

/-- TRAIN_QUERY (R58). -/
def execTrainQuery (tag : Nat) (number : Option Nat) (what : Option What) (s : State) : Host.Outcome State Fault Refusal :=
  takeRequest (.trainQuery tag number what) tag (answerTrainQuery tag number what) s

end Sys2Proof.Machine
end

