-- ==== Sys2Proof/Machine/ServiceCommands.lean ====
section
/-!
DEFINITION. The service regulator's commands: trips (R77, R79, R81, R82), holds (R84), parameters (R87), authorities (R89, R91 to R93),
calls (R86), and learned run times (R96).
-/

namespace Sys2Proof.Machine

/-! ### TRIP_LAPSE (R77) -/

/-- TRIP_LAPSE: a PENDING trip's lapse point has been reached (R77). -/
def execTripLapse (k : Nat) (s : State) : Host.Outcome State Fault Refusal :=
  .next (match s.tripState? k with
    | some t => if t.status == .pending && s.lapsed t.start then setTrip k .lapsed none s else s
    | none => s)

/-! ### TRIP_ASSIGN (R79) -/

/-- The answer to TRIP_ASSIGN (R79). -/
def answerTripAssign (tag : Nat) (train trip : Option Nat) (s : State) : Checked State := do
  require (isPassenger s.lmc.mode) (refuse .mode)
  let n ← needIn "train" 1 999 train
  let k ← needIn "trip" 1 9999 trip
  let t ← need (s.train? n) (refuseField .notFound "train")
  let r ← need (s.tripState? k) (refuseField .notFound "trip")
  require (t.state == .positioning) (refuseField .state "train")
  require (r.status == .pending && decide (s.offset r.start ≤ s.nowOffset + 600)) (refuseField .state "trip")
  require ((s.desc.platformOf? t.head).isSome && s.desc.platformOf? t.head == s.firstPlatform? k) (refuseField .state "platform")
  let u := (giveTrip n k s).conclude
  .ok (u.ok tag [fld "trip" (vNum k), fld "train" (vNum n),
    fld "target_mark" (vMaybeInt (((u.train? n).bind (·.call)).map fun c => secondsTo u c.target))])

/-- TRIP_ASSIGN (R79). -/
def execTripAssign (tag : Nat) (train trip : Option Nat) (s : State) : Host.Outcome State Fault Refusal :=
  takeRequest (.tripAssign tag train trip) tag (answerTripAssign tag train trip) s

/-! ### TRIP_CANCEL (R81) -/

/-- A trip is cancelled by the host (R81). -/
def cancelTrip (k : Nat) (r : TripState) (s : State) : State :=
  let t := setTrip k .cancelled (some .operator) s
  match r.train with
  | some n => dropDelay n (loseTrip n t)
  | none => t

/-- The answer to TRIP_CANCEL; its reply carries the trip (R81; log 56). -/
def answerTripCancel (tag : Nat) (trip : Option Nat) (s : State) : Checked State := do
  let k ← needIn "trip" 1 9999 trip
  let r ← need (s.tripState? k) (refuse .notFound)
  require (r.status == .pending || r.status == .running) (refuse .state)
  .ok ((cancelTrip k r s).conclude.ok tag [fld "trip" (vNum k)])

/-- TRIP_CANCEL (R81). -/
def execTripCancel (tag : Nat) (trip : Option Nat) (s : State) : Host.Outcome State Fault Refusal :=
  takeRequest (.tripCancel tag trip) tag (answerTripCancel tag trip) s

/-! ### TRIP_QUERY (R82) -/


def tripStateLine (t : TripState) : String × List Field :=
  ("TRIP", [fld "trip" (vNum t.number), fld "run_number" (vNum t.run), fld "direction" (vWord (dirWord t.direction)),
    fld "start" (vNum t.start), fld "state" (vWord (tripStatusWord t.status)), fld "train" (vMaybe t.train),
    fld "actual_start" (vMaybe t.actualStart), fld "last_deviation" (vMaybeInt t.deviation),
    fld "cancel_cause" (vMaybeWord (t.cause.map cancelCauseWord))])

def tripCount (s : State) (st : TripStatus) : Value := vNum (s.srg.trips.filter (·.status == st)).length

/-- The first line of a TRIP_QUERY reply (R82). -/
def tripsLine (s : State) : String × List Field :=
  ("TRIPS", [fld "active_slot" (vNone s.lst.active), fld "pending" (tripCount s .pending), fld "running" (tripCount s .running),
    fld "done" (tripCount s .done), fld "lapsed" (tripCount s .lapsed), fld "cancelled" (tripCount s .cancelled)])

/-- The train standing at a platform. -/
def State.standing (s : State) (p : Nat) : Option (Nat × Call) :=
  s.trk.trains.findSome? fun t => t.call.bind fun c => if c.platform = p then some (t.number, c) else none

def platformLine (s : State) (q : PlatRec) : String × List Field :=
  let c := s.standing q.index
  ("PLATFORM", [fld "platform" (vNum q.index), fld "hold_set" (vAtoms (q.holds.map holdAtom)),
    fld "last_departure_mark" (vMaybe (q.lastDeparture.map fun m => s.now - m)), fld "train" (vMaybe (c.map (·.1))),
    fld "call_phase" (vMaybeWord (c.map fun x => callPhaseWord x.2.phase)),
    fld "target" (vMaybeInt (c.map fun x => secondsTo s x.2.target))])

/-- The answer to TRIP_QUERY (R82). -/
def answerTripQuery (tag : Nat) (trip : Option Nat) (what : Option What) (s : State) : Checked State := do
  let k ← maybeIn "trip" 1 9999 trip
  let t := s.clearFlag .trip
  match k with
  | some n =>
    let r ← need (s.tripState? n) (refuse .notFound)
    .ok (t.replyBlock tag [tripsLine s, tripStateLine r])
  | none =>
    match what with
    | some .platforms => .ok (t.replyBlock tag (s.srg.plats.map (platformLine s)))
    | _ => .ok (t.replyBlock tag (tripsLine s :: s.srg.trips.map tripStateLine))

/-- TRIP_QUERY (R82). -/
def execTripQuery (tag : Nat) (trip : Option Nat) (what : Option What) (s : State) : Host.Outcome State Fault Refusal :=
  takeRequest (.tripQuery tag trip what) tag (answerTripQuery tag trip what) s

/-! ### Holds of the host (R84) -/

/-- The answer to HOLD_TRAIN and RELEASE_TRAIN (R84). -/
def answerTrainHold (tag : Nat) (act : Nat → HoldReason → State → State) (train : Option Nat) (s : State) : Checked State := do
  let n ← needIn "train" 1 999 train
  let _ ← needTrain n s
  let t := ((act n .operator s).trainNotice n).conclude
  .ok (t.ok tag [fld "hold_set" (vAtoms ((((t.train? n).map (·.holds)).getD []).map holdAtom))])

/-- HOLD_TRAIN (R84). -/
def execHoldTrain (tag : Nat) (train : Option Nat) (s : State) : Host.Outcome State Fault Refusal :=
  takeRequest (.holdTrain tag train) tag (answerTrainHold tag addTrainHold train) s

/-- RELEASE_TRAIN (R84). -/
def execReleaseTrain (tag : Nat) (train : Option Nat) (s : State) : Host.Outcome State Fault Refusal :=
  takeRequest (.releaseTrain tag train) tag (answerTrainHold tag removeTrainHold train) s

/-- The answer to HOLD_PLATFORM and RELEASE_PLATFORM (R84). -/
def answerPlatformHold (tag : Nat) (act : Nat → HoldReason → State → State) (platform : Option Nat) (s : State) :
    Checked State := do
  let p ← needIn "platform" 0 63 platform
  require (s.plat? p).isSome (refuse .notFound)
  let t := ((act p .operator s).notice .trip [fld "platform" (vNum p)]).conclude
  .ok (t.ok tag [fld "hold_set" (vAtoms ((t.platHolds p).map holdAtom))])

/-- HOLD_PLATFORM (R84). -/
def execHoldPlatform (tag : Nat) (platform : Option Nat) (s : State) : Host.Outcome State Fault Refusal :=
  takeRequest (.holdPlatform tag platform) tag (answerPlatformHold tag addPlatformHold platform) s

/-- RELEASE_PLATFORM (R84). -/
def execReleasePlatform (tag : Nat) (platform : Option Nat) (s : State) : Host.Outcome State Fault Refusal :=
  takeRequest (.releasePlatform tag platform) tag (answerPlatformHold tag removePlatformHold platform) s

/-! ### REGULATION_SET and DELAY_SET (R87) -/

/-- A parameter set with the given parameters replaced (R87). -/
def regulated (f : RegulationFields) (h t w : Option Nat) (r : Regulation) : Regulation :=
  { method := f.method.getD r.method, headway := h.getD r.headway, tolerance := t.getD r.tolerance, window := w.getD r.window }

def regulationFields (r : Regulation) : List Field :=
  [fld "method" (vWord (methodWord r.method)), fld "target_headway" (vNum r.headway), fld "early_tolerance" (vNum r.tolerance),
   fld "start_window" (vNum r.window)]

/-- The answer to REGULATION_SET; its reply carries the set beside its parameters (R87; log 56). -/
def answerRegulationSet (tag : Nat) (f : RegulationFields) (s : State) : Checked State := do
  let which ← needField "set" f.set
  let h ← maybeIn "target_headway" 60 900 f.headway
  let t ← maybeIn "early_tolerance" 0 60 f.tolerance
  let w ← maybeIn "start_window" 10 60 f.window
  match which with
  | .peak =>
    let r := regulated f h t w s.srg.peak
    .ok ({ s with srg.peak := r }.ok tag (fld "set" (vWord "PEAK") :: regulationFields r))
  | .offPeak =>
    let r := regulated f h t w s.srg.offPeak
    .ok ({ s with srg.offPeak := r }.ok tag (fld "set" (vWord "OFF_PEAK") :: regulationFields r))

/-- REGULATION_SET (R87). -/
def execRegulationSet (tag : Nat) (f : RegulationFields) (s : State) : Host.Outcome State Fault Refusal :=
  takeRequest (.regulationSet tag f) tag (answerRegulationSet tag f) s

/-- The answer to DELAY_SET (R87). -/
def answerDelaySet (tag : Nat) (on off : Option Nat) (s : State) : Checked State := do
  let a ← needIn "on-threshold" 60 1800 on
  let b ← needIn "off-threshold" 0 600 off
  require (decide (b < a)) (badField "off-threshold")
  .ok ({ s with srg.onThreshold := a, srg.offThreshold := b }.ok tag [fld "on-threshold" (vNum a), fld "off-threshold" (vNum b)])

/-- DELAY_SET (R87). -/
def execDelaySet (tag : Nat) (on off : Option Nat) (s : State) : Host.Outcome State Fault Refusal :=
  takeRequest (.delaySet tag on off) tag (answerDelaySet tag on off) s

/-! ### AUTHORITY_CLEAR (R93) -/

/-- The answer to AUTHORITY_CLEAR; its reply carries the train (R93; log 56). -/
def answerAuthorityClear (tag : Nat) (train : Option Nat) (s : State) : Checked State := do
  let n ← needIn "train" 1 999 train
  let t ← needTrain n s
  require (t.authority.any (·.state == .unconfirmed)) (refuse .state)
  .ok (((endWithdrawn n s).trainNotice n).conclude.ok tag [fld "train" (vNum n)])

/-- AUTHORITY_CLEAR (R93). -/
def execAuthorityClear (tag : Nat) (train : Option Nat) (s : State) : Host.Outcome State Fault Refusal :=
  takeRequest (.authorityClear tag train) tag (answerAuthorityClear tag train) s

/-! ### Learned run times (R96) -/

/-- A segment that has a record in the working description. -/
def needSegment (g : Nat) (s : State) : Checked Segment := need (s.desc.segment? g) (refuse .notFound)

/-- Replace a segment of the working description. -/
def State.putSegment (g : Segment) (s : State) : State :=
  { s with lmc.working := { s.lmc.working with segments := insertBy (·.index) g s.lmc.working.segments } }

/-- The answer to LEARN_SET (R96). -/
def answerLearnSet (tag : Nat) (segment : Option Nat) (f : Option OneOrAdapt) (lower upper : Option Nat) (s : State) :
    Checked State := do
  let i ← needIn "segment" 0 127 segment
  let k ← maybeFilter f
  let lo ← maybeIn "lower" 0 50 lower
  let up ← maybeIn "upper" 0 50 upper
  let g ← needSegment i s
  let h := { g with filter := k.getD g.filter, lower := lo.getD g.lower, upper := up.getD g.upper }
  .ok (((s.putSegment h).setLearned i (learnClamp h (s.learned i))).ok tag [])

/-- LEARN_SET (R96). -/
def execLearnSet (tag : Nat) (segment : Option Nat) (f : Option OneOrAdapt) (lower upper : Option Nat) (s : State) :
    Host.Outcome State Fault Refusal :=
  takeRequest (.learnSet tag segment f lower upper) tag (answerLearnSet tag segment f lower upper) s

/-- The answer to LEARN_RESET (R96). -/
def answerLearnReset (tag : Nat) (segment : Option OneOrAll) (s : State) : Checked State := do
  match ← needField "segment" segment with
  | .all => .ok ((forEach s.desc.segments (fun g t => t.setLearned g.index g.nominal) s).ok tag [])
  | .one n =>
    let i ← needIn "segment" 0 127 (some n)
    let g ← needSegment i s
    .ok ((s.setLearned i g.nominal).ok tag [])

/-- LEARN_RESET (R96). -/
def execLearnReset (tag : Nat) (segment : Option OneOrAll) (s : State) : Host.Outcome State Fault Refusal :=
  takeRequest (.learnReset tag segment) tag (answerLearnReset tag segment) s

def learnLine (s : State) (g : Segment) : String × List Field :=
  ("LEARN", [fld "segment" (vNum g.index), fld "nominal" (vNum g.nominal), fld "learned" (vNum (s.learned g.index)),
    fld "filter" (vWord (filterWord g.filter)), fld "lower" (vNum g.lower), fld "upper" (vNum g.upper)])

/-- The answer to LEARN_QUERY (R96). -/
def answerLearnQuery (tag : Nat) (segment : Option Nat) (s : State) : Checked State := do
  match ← maybeIn "segment" 0 127 segment with
  | none => .ok (s.replyBlock tag (s.desc.segments.map (learnLine s)))
  | some i =>
    let g ← needSegment i s
    .ok (s.replyBlock tag [learnLine s g])

/-- LEARN_QUERY (R96). -/
def execLearnQuery (tag : Nat) (segment : Option Nat) (s : State) : Host.Outcome State Fault Refusal :=
  takeRequest (.learnQuery tag segment) tag (answerLearnQuery tag segment) s

/-! ### The timers of calls and authorities (R86, R89, R91, R92) -/

/-- TARGET_EXPIRY: a DWELLING call is evaluated (R85, R86). -/
def execTargetExpiry (n : Nat) (s : State) : Host.Outcome State Fault Refusal :=
  .next (match (s.train? n).bind (·.call) with
    | some c => if c.targetDue s.now then (evaluate n s).conclude else s
    | none => s)

/-- RETRY_EXPIRY (R86, R88). -/
def execRetryExpiry (n : Nat) (s : State) : Host.Outcome State Fault Refusal :=
  .next (match (s.train? n).bind (·.call) with
    | some c => if c.retryDue s.now then (retryExpire n s).conclude else s
    | none => s)

/-- AUTHORITY_LAPSE: an ISSUED authority is revoked (R89). -/
def execAuthorityLapse (n : Nat) (s : State) : Host.Outcome State Fault Refusal :=
  .next (match (s.train? n).bind (·.authority) with
    | some a => if a.lapseDue s.now then (revoke n s).conclude else s
    | none => s)

/-- REVOKE_ECHO_LIMIT (R91). -/
def execRevokeEchoLimit (n : Nat) (s : State) : Host.Outcome State Fault Refusal :=
  .next (match (s.train? n).bind (·.authority) with
    | some a => if a.echoDue s.now then (echoLimitExpire n a s).conclude else s
    | none => s)

/-- DEPARTURE_WAIT_EXPIRY (R92). -/
def execDepartureWaitExpiry (n : Nat) (s : State) : Host.Outcome State Fault Refusal :=
  .next (match (s.train? n).bind (·.call) with
    | some c => if c.waitDue s.now then (departureWaitExpire n c s).conclude else s
    | none => s)

end Sys2Proof.Machine
end

