-- ==== Sys2Proof/Machine/Timetables.lean ====
section
/-!
DEFINITION. The line store's commands: STORE_QUERY (R64), the timetable requests (R66 to R68, R71, R72, R74), and the completions of
commit pages and index writes (R62, R69, R70).
-/

namespace Sys2Proof.Machine

/-! ### STORE_QUERY (R64) -/

/-- The kind of a waiting operation. -/
def opKind : StoreOp → String
  | .permitWrite _ => "PERMIT_WRITE"
  | .permitErase _ => "PERMIT_ERASE"
  | .templateWrite .. => "TEMPLATE_WRITE"
  | .responseWrite .. => "RESPONSE_WRITE"
  | .indexWrite => "INDEX_WRITE"
  | .commit _ => "COMMIT"
  | .lineDescription _ => "LINE_DESCRIPTION"

/-- The operation in flight: kind, region, entry and placing block (R64). -/
def inFlightFields : Option InFlight → List Field
  | none => [fld "operation" (vWord "IDLE")]
  | some (.permitWrite r) =>
    [fld "operation" (vWord "PERMIT_WRITE"), fld "region" (vWord "PERMITS"), fld "entry" (vNum r.place), fld "placing_block" (vWord "TPC")]
  | some (.permitErase n) =>
    [fld "operation" (vWord "PERMIT_ERASE"), fld "region" (vWord "PERMITS"), fld "entry" (vNum n), fld "placing_block" (vWord "TPC")]
  | some (.templateWrite i _) =>
    [fld "operation" (vWord "TEMPLATE_WRITE"), fld "region" (vWord "TEMPLATES"), fld "entry" (vNum i), fld "placing_block" (vWord "ANS")]
  | some (.responseWrite c v _) =>
    [fld "operation" (vWord "RESPONSE_WRITE"), fld "region" (vWord "RESPONSES"),
     fld "entry" (.list [.word (classWord c), .num v]), fld "placing_block" (vWord "INM")]
  | some (.indexWrite _ _) =>
    [fld "operation" (vWord "INDEX_WRITE"), fld "region" (vWord "INDICES"), fld "entry" vAbsent, fld "placing_block" (vWord "LST")]
  | some (.commitPage i) =>
    [fld "operation" (vWord "COMMIT"), fld "region" (vWord "SLOT"), fld "entry" (vNum i), fld "placing_block" (vWord "LST")]
  | some (.lineDescription _) =>
    [fld "operation" (vWord "LINE_DESCRIPTION"), fld "region" (vWord "LINE_DESCRIPTION"), fld "entry" vAbsent,
     fld "placing_block" (vWord "LMC")]

def damageWord : Bool → String
  | true => "DAMAGED"
  | false => "WHOLE"

/-- A slot line (R64). -/
def slotLine (i : Nat) (sl : Slot) : List Field :=
  [fld "slot" (vNum i), fld "state" (vWord (slotStateWord sl.state)), fld "name_code" (vNum sl.name),
   fld "trip_count" (vNum sl.tripCount), fld "timing_point_count" (vNum sl.pointCount), fld "check_value" (vNum sl.check.toNat)] ++
    (if sl.state == .committing then [fld "pages_done" (vNum sl.pagesDone), fld "pages" (vNum sl.pages)] else [])

/-- Whether a slot is active or scheduled, stated in TT_QUERY besides the slot line (R74). -/
def slotUse (s : State) (i : Nat) : List Field :=
  [fld "active" (vYes (s.lst.active == some i)), fld "scheduled" (vYes (s.lst.scheduled == some i))]

/-- The slots with their numbers. -/
def State.numberedSlots (s : State) : List (Nat × Slot) := s.lst.slots.zipIdx.map fun q => (q.2, q.1)

/-- The lines of a STORE_QUERY reply (R64). -/
def storeLines (s : State) : List (String × List Field) :=
  let templates := (s.lst.templates.filter (·.damaged)).map (·.index)
  let responses := (s.lst.responses.filter (·.damaged)).map fun r => Atom.text (classWord r.cls) (String.ofList (natText r.severity))
  [("STORE", inFlightFields s.lst.inFlight ++
      [fld "permit_list" (vNum s.lst.permitList.length),
       fld "other_list" (vAtoms (s.lst.otherList.map fun o => .word (opKind o)))]),
   ("LINE_DESCRIPTION", [fld "description_status" (vWord (regionWord s.lst.lineRegion)), fld "session" (vWord (sessionWord s.lmc.session))]),
   ("INDICES", [fld "active_slot" (vNone s.lst.active), fld "scheduled_slot" (vNone s.lst.scheduled),
      fld "region_status" (vWord (damageWord s.lst.indicesDamaged)), fld "outstanding_mark" (vYes s.lst.indexDue)])] ++
    s.numberedSlots.map (fun q => ("SLOT", slotLine q.1 q.2)) ++
    [("TEMPLATES", [fld "region_status" (vWord (damageWord !templates.isEmpty)), fld "damaged" (vNums templates)]),
     ("RESPONSES", [fld "region_status" (vWord (damageWord !responses.isEmpty)), fld "damaged" (vAtoms responses)])]

/-- STORE_QUERY (R64). -/
def execStoreQuery (tag : Nat) (s : State) : Host.Outcome State Fault Refusal :=
  takeRequest (.storeQuery tag) tag (fun s => .ok ((s.clearFlag .store).replyBlock tag (storeLines s))) s

/-! ### TT_OPEN and TT_ABANDON (R66) -/

/-- The slot of a number in range. -/
def needSlot (o : Option Nat) (s : State) : Checked (Nat × Slot) := do
  let i ← needIn "slot" 0 3 o
  let sl ← need (s.slot? i) (badField "slot")
  .ok (i, sl)

/-- A slot is being written or committed. -/
def Slot.busy (sl : Slot) : Bool := sl.state == .writing || sl.state == .committing

/-- The answer to TT_OPEN (R66). -/
def answerTtOpen (tag : Nat) (slot name : Option Nat) (s : State) : Checked State := do
  let (i, sl) ← needSlot slot s
  let n ← needIn "name_code" 0 65535 name
  require (s.lst.active != some i && s.lst.scheduled != some i) (refuse .state)
  require (!(s.numberedSlots.any fun q => q.1 != i && q.2.busy) && sl.state != .committing) (refuse .busy)
  let t := s.modSlot i fun _ => { Slot.empty with state := .writing, name := n }
  .ok (({ t with lst.buffer := [] }.slotNotice i).ok tag [fld "restarted" (vYes (sl.state == SlotState.writing))])

/-- TT_OPEN (R66). -/
def execTtOpen (tag : Nat) (slot name : Option Nat) (s : State) : Host.Outcome State Fault Refusal :=
  takeRequest (.ttOpen tag slot name) tag (answerTtOpen tag slot name) s

/-- The answer to TT_ABANDON (R66). -/
def answerTtAbandon (tag : Nat) (slot : Option Nat) (s : State) : Checked State := do
  let (i, sl) ← needSlot slot s
  require (sl.state == .writing) (refuse .state)
  .ok (({ s.modSlot i (fun _ => Slot.empty) with lst.buffer := [] }.slotNotice i).ok tag [])

/-- TT_ABANDON (R66). -/
def execTtAbandon (tag : Nat) (slot : Option Nat) (s : State) : Host.Outcome State Fault Refusal :=
  takeRequest (.ttAbandon tag slot) tag (answerTtAbandon tag slot) s

/-! ### TT_ADD_TRIP (R67) -/

/-- A refusal that names a timing point by its position, in index= (R67, R182). -/
def pointRefused (r : Reason) (name : String) (k : Nat) : Refused :=
  ⟨r, [fld "field" (vWord name), fld "index" (vNum k)]⟩

/-- Check each timing point with its position. -/
def checkPoints (l : List TimingPoint) (f : Nat → TimingPoint → Checked Unit) : Checked Unit :=
  checkEach l.zipIdx fun q => f q.2 q.1

/-- Check 3 for one timing point (R65, R67). -/
def pointRanges (k : Nat) (pt : TimingPoint) : Checked Unit := do
  require (decide (pt.station ≤ 31)) (pointRefused .badField "station" k)
  require (pt.arrival.all fun t => decide (t ≤ 86399)) (pointRefused .badField "planned_arrival" k)
  require (pt.departure.all fun t => decide (t ≤ 86399)) (pointRefused .badField "planned_departure" k)
  require (decide (pt.dwell ≤ 300)) (pointRefused .badField "minimum_dwell" k)

/-- Check 4 for one timing point of a trip of `n` (R67; log 26). -/
def pointShape (n k : Nat) (pt : TimingPoint) : Bool :=
  pt.arrival.isSome == decide (0 < k) && pt.departure.isSome == decide (k + 1 < n)

/-- The planned times of a trip in order, with their points and names (R67). -/
def plannedTimes (l : List TimingPoint) : List (Nat × String × Nat) :=
  l.zipIdx.flatMap fun q =>
    (q.1.arrival.map fun t => (q.2, "planned_arrival", t)).toList ++ (q.1.departure.map fun t => (q.2, "planned_departure", t)).toList

/-- Each time's offset is not less than that of the one before it (R67). -/
def timesForward (s : State) : Nat → List (Nat × String × Nat) → Checked Unit
  | _, [] => .ok ()
  | before, (k, name, t) :: r => do
    require (decide (before ≤ s.offset t)) (pointRefused .badField name k)
    timesForward s (s.offset t) r

/-- Check 5 (R67). Where the start time is not the first planned departure, that departure is the time at fault (log 52). -/
def checkTimes (s : State) (start : Nat) (l : List TimingPoint) : Checked Unit :=
  match l with
  | p :: _ :: _ => do
    require (p.departure == some start) (pointRefused .badField "planned_departure" 0)
    timesForward s (s.offset start) (plannedTimes l)
  | _ => .ok ()

/-- Consecutive points name different stations; of two that name one, the position of the second, which the refusal gives with the field
timing_points (R67; log 53). -/
def repeatedStation : Nat → List TimingPoint → Option Nat
  | k, p :: q :: r => if p.station = q.station then some (k + 1) else repeatedStation (k + 1) (q :: r)
  | _, _ => none

/-- The answer to TT_ADD_TRIP (R67). -/
def answerTtAddTrip (tag : Nat) (f : TripFields) (s : State) : Checked State := do
  let (i, sl) ← needSlot f.slot s
  require (sl.state == .writing) (refuse .state)
  let n ← needIn "trip" 1 9999 f.trip
  let run ← needIn "run_number" 1 9999 f.run
  let dir ← needField "direction" f.direction
  let start ← needIn "start" 0 86399 f.start
  let pts ← needField "timing_points" f.points
  require (decide (1 ≤ pts.length ∧ pts.length ≤ 32)) (badField "timing_points")
  checkPoints pts pointRanges
  checkPoints pts fun k pt => require (pointShape pts.length k pt) (pointRefused .badField "timing_points" k)
  checkTimes s start pts
  checkPoints pts fun k pt =>
    require ((s.desc.station? pt.station).isSome && s.desc.platformExists (pointPlatform dir pt)) (pointRefused .notFound "timing_points" k)
  match repeatedStation 0 pts with
  | some k => .error (pointRefused .badField "timing_points" k)
  | none => .ok ()
  require (!(s.lst.buffer.any (·.number == n))) (refuseField .state "trip")
  require (s.lst.buffer.getLast?.all fun t => decide (s.offset t.start ≤ s.offset start)) (badField "start")
  require (decide (s.lst.buffer.length < 1024 ∧ pointCount s.lst.buffer + pts.length ≤ 16384)) (refuse .full)
  let buffer := s.lst.buffer ++ [{ number := n, run := run, direction := dir, start := start, points := pts }]
  let t := { s with lst.buffer := buffer }.modSlot i fun sl =>
    { sl with tripCount := buffer.length, pointCount := pointCount buffer }
  .ok (t.ok tag [fld "trip_count" (vNum buffer.length), fld "timing_point_count" (vNum (pointCount buffer))])

/-- TT_ADD_TRIP (R67). -/
def execTtAddTrip (tag : Nat) (f : TripFields) (s : State) : Host.Outcome State Fault Refusal :=
  takeRequest (.ttAddTrip tag f) tag (answerTtAddTrip tag f) s

/-! ### TT_CLOSE (R68) -/

/-- The answer to TT_CLOSE (R68). The check value is what the manual does not say how to compute: a free value (log 8). -/
def answerTtClose (tag : Nat) (slot : Option Nat) (s : State) : Checked State := do
  let (i, sl) ← needSlot slot s
  require (sl.state == .writing) (refuse .state)
  require (!s.lst.buffer.isEmpty) (refuseField .state "trips")
  require s.otherRoom (refuse .storeBusy)
  let pages := commitPages s.lst.buffer
  let t := s.modSlot i fun sl =>
    { sl with state := .committing, check := Config.slotCheck s.lst.buffer, pages := pages, pagesDone := 0 }
  .ok ((((t.slotNotice i).placeOtherOp (.commit i)).conclude).ok tag [fld "pages" (vNum pages)])

/-- TT_CLOSE (R68). -/
def execTtClose (tag : Nat) (slot : Option Nat) (s : State) : Host.Outcome State Fault Refusal :=
  takeRequest (.ttClose tag slot) tag (answerTtClose tag slot) s

/-! ### COMMIT_PAGE_COMPLETION (R69) -/

/-- The commit leaves the other list, and the staging buffer is emptied (R69). -/
def endCommit (i : Nat) (s : State) : State :=
  { s with lst.otherList := s.lst.otherList.erase (.commit i), lst.buffer := [] }

/-- A page of a commit has been written (R69). -/
def pageDone (i : Nat) (s : State) : State :=
  match s.slot? i with
  | none => s
  | some sl =>
    if sl.pagesDone + 1 < sl.pages then s.modSlot i fun sl => { sl with pagesDone := sl.pagesDone + 1 }
    else
      let t := s.modSlot i fun sl =>
        { sl with state := .valid, content := s.lst.buffer, tripCount := s.lst.buffer.length,
                  pointCount := pointCount s.lst.buffer, pages := 0, pagesDone := 0 }
      (endCommit i t).slotNotice i

/-- A page of a commit has failed (R69). -/
def pageFailed (i : Nat) (s : State) : State :=
  (endCommit i (s.modSlot i fun sl => { sl with state := .damaged, pages := 0, pagesDone := 0 })).slotNotice i

/-- COMMIT_PAGE_COMPLETION (R62, R69). -/
def execCommitPageCompletion (o : StoreOutcome) (s : State) : Host.Outcome State Fault Refusal :=
  .next (match s.lst.inFlight with
    | some (.commitPage i) =>
      let t := { s with lst.inFlight := none }
      let u := match o with
        | .done => pageDone i t
        | .failed => pageFailed i t
      (u.storeNotice "SLOT" (vNum i) (storeOutcomeWord o)).conclude
    | _ => s)

/-! ### INDEX_WRITE_COMPLETION (R62, R70) -/

/-- INDEX_WRITE_COMPLETION: both stored indices take the values written, or the region is DAMAGED (R62, R70). -/
def execIndexWriteCompletion (o : StoreOutcome) (s : State) : Host.Outcome State Fault Refusal :=
  .next (match s.lst.inFlight with
    | some (.indexWrite a sc) =>
      let t := match o with
        | .done =>
          { s with lst.inFlight := none, lst.storedActive := a, lst.storedScheduled := sc, lst.indicesDamaged := false }
        | .failed => { s with lst.inFlight := none, lst.indicesDamaged := true }
      (t.storeNotice "INDICES" vAbsent (storeOutcomeWord o)).conclude
    | _ => s)

/-! ### TT_ACTIVATE and TT_SCHEDULE (R71, R72) -/

/-- A slot to take: 0 to 3, or NONE; a named slot must be VALID (R71, R72). -/
def needIndex (o : Option OneOrNone) (s : State) : Checked (Option Nat) := do
  match ← needField "slot" o with
  | .none => .ok none
  | .one i =>
    let (i, sl) ← needSlot (some i) s
    require (sl.state == .valid) (refuse .state)
    .ok (some i)

/-- The answer to TT_ACTIVATE (R71). R71 names no result field; the reply shows the slot taken (log 56). -/
def answerTtActivate (tag : Nat) (slot : Option OneOrNone) (s : State) : Checked State := do
  require (!isPassenger s.lmc.mode) (refuse .mode)
  let i ← needIndex slot s
  .ok ((rebuildTrips (s.setIndices i s.lst.scheduled)).conclude.ok tag [fld "slot" (vNone i)])

/-- TT_ACTIVATE (R71). -/
def execTtActivate (tag : Nat) (slot : Option OneOrNone) (s : State) : Host.Outcome State Fault Refusal :=
  takeRequest (.ttActivate tag slot) tag (answerTtActivate tag slot) s

/-- The answer to TT_SCHEDULE (R72). R72 names no result field; the reply shows the slot taken (log 56). -/
def answerTtSchedule (tag : Nat) (slot : Option OneOrNone) (s : State) : Checked State := do
  let i ← needIndex slot s
  .ok ((s.setIndices s.lst.active i).conclude.ok tag [fld "slot" (vNone i)])

/-- TT_SCHEDULE (R72). -/
def execTtSchedule (tag : Nat) (slot : Option OneOrNone) (s : State) : Host.Outcome State Fault Refusal :=
  takeRequest (.ttSchedule tag slot) tag (answerTtSchedule tag slot) s

/-! ### TT_QUERY (R74) -/

/-- The trips a slot's listing gives (R74). -/
def listedTrips (s : State) (sl : Slot) : List TripRecord :=
  match sl.state with
  | .valid => sl.content
  | .writing => s.lst.buffer
  | .committing => s.lst.buffer
  | _ => []

def tripLine (t : TripRecord) : String × List Field :=
  ("TRIP", [fld "trip" (vNum t.number), fld "run_number" (vNum t.run), fld "direction" (vWord (dirWord t.direction)),
    fld "start" (vNum t.start), fld "timing_points" (vNum t.points.length)])

def pointLine (pt : TimingPoint) : String × List Field :=
  ("POINT", [fld "station" (vNum pt.station), fld "planned_arrival" (vMaybe pt.arrival), fld "planned_departure" (vMaybe pt.departure),
    fld "minimum_dwell" (vNum pt.dwell)])

/-- The answer to TT_QUERY (R74). -/
def answerTtQuery (tag : Nat) (slot trip : Option Nat) (s : State) : Checked State := do
  let (i, sl) ← needSlot slot s
  let n ← maybeIn "trip" 1 9999 trip
  let head := ("SLOT", slotLine i sl ++ slotUse s i)
  match n with
  | none => .ok (s.replyBlock tag (head :: (listedTrips s sl).map tripLine))
  | some k =>
    let t ← need ((listedTrips s sl).find? (·.number == k)) (refuse .notFound)
    .ok (s.replyBlock tag (head :: tripLine t :: t.points.map pointLine))

/-- TT_QUERY (R74). -/
def execTtQuery (tag : Nat) (slot trip : Option Nat) (s : State) : Host.Outcome State Fault Refusal :=
  takeRequest (.ttQuery tag slot trip) tag (answerTtQuery tag slot trip) s

end Sys2Proof.Machine
end

