-- ==== Sys2Proof/Machine/Dispatch.lean ====
section
/-! DEFINITION. The dispatcher: one arm for each command, one direct call of its meaning. -/

namespace Sys2Proof.Machine

def exec (i : Instr) (s : State) : Host.Outcome State Fault Refusal :=
  match i with
  | .powerOn stored => Sys2Proof.Machine.execPowerOn stored s
  | .restartStart stored => Sys2Proof.Machine.execRestartStart stored s
  | .secondTick => Sys2Proof.Machine.execSecondTick s
  | .trafficDayBoundary => Sys2Proof.Machine.execTrafficDayBoundary s
  | .tripLapse trip => Sys2Proof.Machine.execTripLapse trip s
  | .lineArrival chars => Sys2Proof.Machine.execLineArrival chars s
  | .unknownRequest => Sys2Proof.Machine.execUnknownRequest s
  | .lineLoadBegin tag => Sys2Proof.Machine.execLineLoadBegin tag s
  | .lineLoadRecord tag record => Sys2Proof.Machine.execLineLoadRecord tag record s
  | .lineLoadCommit tag => Sys2Proof.Machine.execLineLoadCommit tag s
  | .timeSet tag time => Sys2Proof.Machine.execTimeSet tag time s
  | .unitQuery tag address => Sys2Proof.Machine.execUnitQuery tag address s
  | .patternSet tag fields => Sys2Proof.Machine.execPatternSet tag fields s
  | .patternArm tag => Sys2Proof.Machine.execPatternArm tag s
  | .patternQuery tag index => Sys2Proof.Machine.execPatternQuery tag index s
  | .stallLimitSet tag limit => Sys2Proof.Machine.execStallLimitSet tag limit s
  | .trainSetNumber tag segment number tail => Sys2Proof.Machine.execTrainSetNumber tag segment number tail s
  | .trainSetDraw tag number draw => Sys2Proof.Machine.execTrainSetDraw tag number draw s
  | .trainWithdraw tag number => Sys2Proof.Machine.execTrainWithdraw tag number s
  | .trainQuery tag number what => Sys2Proof.Machine.execTrainQuery tag number what s
  | .storeQuery tag => Sys2Proof.Machine.execStoreQuery tag s
  | .ttOpen tag slot name => Sys2Proof.Machine.execTtOpen tag slot name s
  | .ttAbandon tag slot => Sys2Proof.Machine.execTtAbandon tag slot s
  | .ttAddTrip tag fields => Sys2Proof.Machine.execTtAddTrip tag fields s
  | .ttClose tag slot => Sys2Proof.Machine.execTtClose tag slot s
  | .ttActivate tag slot => Sys2Proof.Machine.execTtActivate tag slot s
  | .ttSchedule tag slot => Sys2Proof.Machine.execTtSchedule tag slot s
  | .ttQuery tag slot trip => Sys2Proof.Machine.execTtQuery tag slot trip s
  | .tripAssign tag train trip => Sys2Proof.Machine.execTripAssign tag train trip s
  | .tripCancel tag trip => Sys2Proof.Machine.execTripCancel tag trip s
  | .tripQuery tag trip what => Sys2Proof.Machine.execTripQuery tag trip what s
  | .holdTrain tag train => Sys2Proof.Machine.execHoldTrain tag train s
  | .releaseTrain tag train => Sys2Proof.Machine.execReleaseTrain tag train s
  | .holdPlatform tag platform => Sys2Proof.Machine.execHoldPlatform tag platform s
  | .releasePlatform tag platform => Sys2Proof.Machine.execReleasePlatform tag platform s
  | .regulationSet tag fields => Sys2Proof.Machine.execRegulationSet tag fields s
  | .delaySet tag on off => Sys2Proof.Machine.execDelaySet tag on off s
  | .authorityClear tag train => Sys2Proof.Machine.execAuthorityClear tag train s
  | .learnSet tag segment filter lower upper => Sys2Proof.Machine.execLearnSet tag segment filter lower upper s
  | .learnReset tag segment => Sys2Proof.Machine.execLearnReset tag segment s
  | .learnQuery tag segment => Sys2Proof.Machine.execLearnQuery tag segment s
  | .energise tag sec => Sys2Proof.Machine.execEnergise tag sec s
  | .energiseAll tag => Sys2Proof.Machine.execEnergiseAll tag s
  | .deenergise tag sec => Sys2Proof.Machine.execDeenergise tag sec s
  | .breakerCommand tag breaker action => Sys2Proof.Machine.execBreakerCommand tag breaker action s
  | .holdRelease tag sec => Sys2Proof.Machine.execHoldRelease tag sec s
  | .sectionQuery tag sec what => Sys2Proof.Machine.execSectionQuery tag sec what s
  | .permitRequest tag sec holder => Sys2Proof.Machine.execPermitRequest tag sec holder s
  | .permitCancel tag id => Sys2Proof.Machine.execPermitCancel tag id s
  | .permitSurrender tag id holder => Sys2Proof.Machine.execPermitSurrender tag id holder s
  | .permitQuery tag id sec => Sys2Proof.Machine.execPermitQuery tag id sec s
  | .escalationSet tag cls period => Sys2Proof.Machine.execEscalationSet tag cls period s
  | .responseSet tag fields => Sys2Proof.Machine.execResponseSet tag fields s
  | .incidentRaise tag cls severity location note => Sys2Proof.Machine.execIncidentRaise tag cls severity location note s
  | .incidentAck tag id note => Sys2Proof.Machine.execIncidentAck tag id note s
  | .incidentContain tag id note => Sys2Proof.Machine.execIncidentContain tag id note s
  | .incidentClose tag id note => Sys2Proof.Machine.execIncidentClose tag id note s
  | .incidentRelease tag id action index => Sys2Proof.Machine.execIncidentRelease tag id action index s
  | .incidentRetire tag id => Sys2Proof.Machine.execIncidentRetire tag id s
  | .incidentQuery tag id what => Sys2Proof.Machine.execIncidentQuery tag id what s
  | .templateLoad tag index elements => Sys2Proof.Machine.execTemplateLoad tag index elements s
  | .announce tag fields => Sys2Proof.Machine.execAnnounce tag fields s
  | .withdraw tag id => Sys2Proof.Machine.execWithdraw tag id s
  | .announceQuery tag id what => Sys2Proof.Machine.execAnnounceQuery tag id what s
  | .zoneQuery tag station => Sys2Proof.Machine.execZoneQuery tag station s
  | .modeRequest tag target escalate => Sys2Proof.Machine.execModeRequest tag target escalate s
  | .restart tag => Sys2Proof.Machine.execRestart tag s
  | .surveyEnd tag target => Sys2Proof.Machine.execSurveyEnd tag target s
  | .statusQuery tag => Sys2Proof.Machine.execStatusQuery tag s
  | .tryStart rivals => Sys2Proof.Machine.execTryStart rivals s
  | .tryEnd mark => Sys2Proof.Machine.execTryEnd mark s
  | .frameReceive frame otherMark => Sys2Proof.Machine.execFrameReceive frame otherMark s
  | .trackEvent => Sys2Proof.Machine.execTrackEvent s
  | .trackStatus => Sys2Proof.Machine.execTrackStatus s
  | .revokeEcho => Sys2Proof.Machine.execRevokeEcho s
  | .powerStatus => Sys2Proof.Machine.execPowerStatus s
  | .selectEcho => Sys2Proof.Machine.execSelectEcho s
  | .stationStatus => Sys2Proof.Machine.execStationStatus s
  | .playEnd => Sys2Proof.Machine.execPlayEnd s
  | .alarm => Sys2Proof.Machine.execAlarm s
  | .pollPoint address => Sys2Proof.Machine.execPollPoint address s
  | .silenceExpiry address => Sys2Proof.Machine.execSilenceExpiry address s
  | .stallExpiry train => Sys2Proof.Machine.execStallExpiry train s
  | .escalationExpiry incident => Sys2Proof.Machine.execEscalationExpiry incident s
  | .targetExpiry train => Sys2Proof.Machine.execTargetExpiry train s
  | .retryExpiry train => Sys2Proof.Machine.execRetryExpiry train s
  | .authorityLapse train => Sys2Proof.Machine.execAuthorityLapse train s
  | .revokeEchoLimit train => Sys2Proof.Machine.execRevokeEchoLimit train s
  | .departureWaitExpiry train => Sys2Proof.Machine.execDepartureWaitExpiry train s
  | .startWindowExpiry train => Sys2Proof.Machine.execStartWindowExpiry train s
  | .regenerationWindowExpiry sec => Sys2Proof.Machine.execRegenerationWindowExpiry sec s
  | .selectWindowExpiry breaker => Sys2Proof.Machine.execSelectWindowExpiry breaker s
  | .operateLimitExpiry breaker => Sys2Proof.Machine.execOperateLimitExpiry breaker s
  | .recloseDelayExpiry sec => Sys2Proof.Machine.execRecloseDelayExpiry sec s
  | .lockoutSpanExpiry sec => Sys2Proof.Machine.execLockoutSpanExpiry sec s
  | .voltageConfirmExpiry sec => Sys2Proof.Machine.execVoltageConfirmExpiry sec s
  | .isolationConfirmExpiry sec => Sys2Proof.Machine.execIsolationConfirmExpiry sec s
  | .permitWriteCompletion outcome => Sys2Proof.Machine.execPermitWriteCompletion outcome s
  | .permitEraseCompletion outcome => Sys2Proof.Machine.execPermitEraseCompletion outcome s
  | .templateWriteCompletion outcome => Sys2Proof.Machine.execTemplateWriteCompletion outcome s
  | .responseWriteCompletion outcome => Sys2Proof.Machine.execResponseWriteCompletion outcome s
  | .indexWriteCompletion outcome => Sys2Proof.Machine.execIndexWriteCompletion outcome s
  | .commitPageCompletion outcome => Sys2Proof.Machine.execCommitPageCompletion outcome s
  | .lineDescriptionCompletion outcome => Sys2Proof.Machine.execLineDescriptionCompletion outcome s
  | .entryExpiry entry => Sys2Proof.Machine.execEntryExpiry entry s
  | .deliveryEligible entry station => Sys2Proof.Machine.execDeliveryEligible entry station s
  | .playLimitExpiry station => Sys2Proof.Machine.execPlayLimitExpiry station s
  | .displayRefreshExpiry platform => Sys2Proof.Machine.execDisplayRefreshExpiry platform s
  | .inboundFrameDiscarded => Sys2Proof.Machine.execInboundFrameDiscarded s

end Sys2Proof.Machine
end

