-- ==== Sys2Proof/Safety.lean ====
section
/-!
DEFINITION. The words the statements are written in: runs, the standing part of a state (what the handling of one event leaves alone
inside the blocks), the capacities and the laws the manual gives, what a start leaves, and a request that is due and its reply.
-/

namespace Sys2Proof.Safety

open Sys2Proof.Machine

/-! ### Runs -/

/-- The step from a state ends in a next state. -/
def goesOn (s : State) : Prop := ∃ t, step s = .next t

/-- One state follows another in one step. -/
def follows (s t : State) : Prop := step s = .next t

/-- A property that every step keeps. -/
def kept (inv : State → Prop) : Prop := ∀ s t, inv s → follows s t → inv t

/-- A property that every step from a state with another property keeps. -/
def keptUnder (base inv : State → Prop) : Prop := ∀ s t, base s → inv s → follows s t → inv t

/-! ### The standing part of a state -/

/-- What no consequence of an event changes inside the blocks: the clock, the description and its session, the stored regions, the
inbound lines, the line and the inbound frames, the patterns, the settings, the working copies, and whether the mode is SURVEY. -/
structure Standing where
  pending : List Instr
  inbound : List Text
  restartDue : Bool
  count : Nat
  lineTime : Nat
  timeSet : Bool
  boundaryDue : Bool
  session : Session
  staged : Description
  working : Description
  survey : Bool
  escalation : Bool
  startRecord : StartRecord
  lineRegion : LineRegion
  slots : List Slot
  buffer : List TripRecord
  templates : List TemplatePlace
  responses : List ResponsePlace
  permitRecords : List PermitRecord
  storedActive : Option Nat
  storedScheduled : Option Nat
  indicesDamaged : Bool
  active : Option Nat
  scheduled : Option Nat
  line : LineUse
  drivesMark : Bool
  inBuffer : List WireFrame
  patterns : List Pattern
  armed : Bool
  stallLimit : Nat
  peak : Regulation
  offPeak : Regulation
  onThreshold : Nat
  offThreshold : Nat
  periods : Periods
  workingResponses : List ResponsePlace
  workingTemplates : List TemplatePlace
deriving DecidableEq, Repr

/-- The standing part of a state. -/
def standing (s : State) : Standing :=
  { pending := s.pending, inbound := s.clp.inbound, restartDue := s.clp.restartDue, count := s.lmc.count,
    lineTime := s.lmc.lineTime, timeSet := s.lmc.timeSet, boundaryDue := s.lmc.boundaryDue, session := s.lmc.session,
    staged := s.lmc.staged, working := s.lmc.working, survey := s.lmc.mode == .survey, escalation := s.lmc.escalation,
    startRecord := s.lmc.startRecord, lineRegion := s.lst.lineRegion, slots := s.lst.slots, buffer := s.lst.buffer,
    templates := s.lst.templates, responses := s.lst.responses, permitRecords := s.lst.permits,
    storedActive := s.lst.storedActive, storedScheduled := s.lst.storedScheduled, indicesDamaged := s.lst.indicesDamaged,
    active := s.lst.active, scheduled := s.lst.scheduled, line := s.wlc.line, drivesMark := s.wlc.drivesMark,
    inBuffer := s.wlc.inBuffer, patterns := s.wlc.patterns, armed := s.wlc.armed, stallLimit := s.trk.stallLimit,
    peak := s.srg.peak, offPeak := s.srg.offPeak, onThreshold := s.srg.onThreshold, offThreshold := s.srg.offThreshold,
    periods := s.inm.periods, workingResponses := s.inm.responses, workingTemplates := s.ans.templates }

/-! ### Capacities -/

/-- The capacities and ranges the manual gives: the inbound line queue (R180), the outbound queue and its sequence counter (R20), the
inbound buffer (R24), the trigger patterns (R34), line time (R17), the slots (R65), the other waiting list (R60), the breaker command
queue (R103) and the selection code (R104), the incident table (R133) and the announcement table (R153), the train table (R42), the
links of an incident (R142), and the staging buffer of a timetable (R67). Those of permits stand in `PermitLaw` (R60, R121), that of the
running sequences in `SectionLaw` (R113). -/
structure Capacity (s : State) : Prop where
  inbound : s.clp.inbound.length ≤ 8
  outQueue : s.wlc.outQueue.length ≤ 32
  sequence : s.wlc.seqCounter < 16
  inBuffer : s.wlc.inBuffer.length ≤ 16
  patterns : s.wlc.patterns.length = 16
  lineTime : s.lmc.lineTime < 86400
  slots : s.lst.slots.length = 4
  otherList : s.lst.otherList.length ≤ 4
  commands : s.tpc.queue.length ≤ 16
  code : s.tpc.nextCode < 256
  incidents : s.inm.incidents.length ≤ 32
  entries : s.ans.entries.length ≤ 48
  trains : s.trk.trains.length ≤ 48
  links : ∀ i ∈ s.inm.incidents, i.links.length ≤ 8
  buffer : s.lst.buffer.length ≤ 1024 ∧ pointCount s.lst.buffer ≤ 16384

/-! ### The keys of the tables -/

/-- The keys of a list rise strictly, so that no two of its records have the same key. -/
def rising (l : List Nat) : Prop := l.Pairwise (· < ·)

/-- Each list of a description stands in rising index, its units in rising address (R2 to R9). -/
structure Ordered (d : Description) : Prop where
  stations : rising (d.stations.map (·.index))
  segments : rising (d.segments.map (·.index))
  sections : rising (d.sections.map (·.index))
  substations : rising (d.substations.map (·.index))
  breakers : rising (d.breakers.map (·.index))
  units : rising (d.units.map (·.address))

/-- The description that the line description region holds, if any (R1). -/
def regionDescription : LineRegion → Option Description
  | .whole d => some d
  | _ => none

/-- The description that an operation of the other list carries, if any (R60). -/
def operationDescription : StoreOp → Option Description
  | .lineDescription d => some d
  | _ => none

/-- The description that the operation in flight carries, if any (R61). -/
def flightDescription : InFlight → Option Description
  | .lineDescription d => some d
  | _ => none

/-- The descriptions of the operations of the store, waiting or in flight (R60, R61). -/
def placedDescriptions (s : State) : List Description :=
  s.lst.otherList.filterMap operationDescription ++ (s.lst.inFlight.bind flightDescription).toList

/-- Every description that the part holds (R1, R11, R60). -/
def heldDescriptions (s : State) : List Description :=
  s.lmc.staged :: s.lmc.working :: ((regionDescription s.lst.lineRegion).toList ++ placedDescriptions s)

/-- The records of each table that the manual keys by an index, an address or a number stand in rising key, and the descriptions are
ordered (R2 to R9, R27, R41, R42, R83, R99, R100, R110, R157, R164). -/
structure Keyed (s : State) : Prop where
  descriptions : ∀ d ∈ heldDescriptions s, Ordered d
  units : rising (s.wlc.registry.map (·.address))
  segments : rising (s.trk.segs.map (·.index))
  trains : rising (s.trk.trains.map (·.number))
  platforms : rising (s.srg.plats.map (·.index))
  sections : rising (s.tpc.sections.map (·.index))
  breakers : rising (s.tpc.breakers.map (·.index))
  grants : rising (s.tpc.grants.map (·.train))
  zones : rising (s.ans.zones.map (·.station))
  displays : rising (s.ans.displays.map (·.platform))

/-- What the laws below rest on: the tables are keyed and within their capacities. -/
structure Sound (s : State) : Prop where
  keyed : Keyed s
  capacity : Capacity s

/-! ### The laws of the device -/

/-- The law of the train and segment tables: a segment is OCCUPIED with a number exactly when it is the head or the tail of that train,
and the train is not LOST; and each segment of the working description has its record (R41, R42). -/
structure PositionLaw (s : State) : Prop where
  segments : s.trk.segs.map (·.index) = s.desc.segments.map (·.index)
  occupied : ∀ g n, s.occ g = .occupied n ↔
    ∃ t, s.train? n = some t ∧ t.state ≠ .lost ∧ (t.head = g ∨ t.tail = some g)

/-- The law of authorities: one is ISSUED only while the hold sets of its train and of its platform are empty, the train holds a grant
in the section of the platform's next segment, and the mode is TRAFFIC or REDUCED (R83, R89). -/
def AuthorityLaw (s : State) : Prop :=
  ∀ t ∈ s.trk.trains, ∀ a, t.authority = some a → a.state = .issued →
    t.holds = [] ∧ s.platHolds a.platform = [] ∧ isPassenger s.lmc.mode = true ∧
      ∃ x, s.sectionAhead? a.platform = some x ∧ ∃ g ∈ s.tpc.grants, g.train = t.number ∧ g.sec = x

/-- The law of budgets: each section's budget is what the CLOSED feeders of LIVE units contribute, and no breaker is CLOSED whose unit is
not a LIVE power unit (R106, R109). -/
structure BudgetLaw (s : State) : Prop where
  budgets : ∀ r ∈ s.tpc.sections, r.budget = s.budgetNow r.index
  closed : ∀ b ∈ s.tpc.breakers, b.state = .closed →
    ∃ u, s.unitRec? (s.desc.breakerUnit b.index) = some u ∧ u.state = .live ∧ u.kind = .power

/-- The law of slots: the working indices name VALID slots, at most one slot is WRITING or COMMITTING, and the commit that the store
has in hand is that of the slot COMMITTING (R69, R70). -/
structure SlotLaw (s : State) : Prop where
  active : ∀ i, s.lst.active = some i → (s.slot? i).map (·.state) = some .valid
  scheduled : ∀ i, s.lst.scheduled = some i → (s.slot? i).map (·.state) = some .valid
  single : ∀ i j x y, s.slot? i = some x → s.slot? j = some y → x.state = .writing ∨ x.state = .committing →
    y.state = .writing ∨ y.state = .committing → i = j
  waiting : ∀ i, .commit i ∈ s.lst.otherList → (s.slot? i).map (·.state) = some .committing
  inFlight : ∀ i, s.lst.inFlight = some (.commitPage i) → (s.slot? i).map (·.state) = some .committing
  once : ∀ i, s.lst.otherList.count (.commit i) ≤ 1

/-- The record that the store keeps of a permit (R127). -/
def recordOf (p : Permit) : PermitRecord :=
  { place := p.place, id := p.id, sec := p.sec, holder := p.holder, requested := p.requested }

/-- The store record of a permit in each state (R121, R127, R130). -/
def markOf : PermitState → StoreMark
  | .requested => .absent
  | .isolating => .absent
  | .recording => .writing
  | .issued => .present
  | .surrendering => .erasing
  | .ended => .absent

/-- The operation that a permit waits for (R127, R130). -/
def operationOf (p : Permit) : Option StoreOp :=
  match p.store with
  | .writing => some (.permitWrite (recordOf p))
  | .erasing => some (.permitErase p.place)
  | _ => none

/-- The permit operation in flight, if any (R61). -/
def flightOperation : InFlight → Option StoreOp
  | .permitWrite r => some (.permitWrite r)
  | .permitErase n => some (.permitErase n)
  | _ => none

/-- The permit operations, the one in flight before those that wait (R60, R61). -/
def permitOperations (s : State) : List StoreOp := (s.lst.inFlight.bind flightOperation).toList ++ s.lst.permitList

/-- The law of permits: each holds a place of its own, 0 to 15, and an id of its own; its store record follows its state, so that an
ISSUED permit has its record in the store; the store's records and operations are those of the permits that wait for them, one for each;
at most four permits of a section are open; and a line description operation finds the line in SURVEY, the session COMMITTING and every
permit ENDED (R13, R60, R121, R127). -/
structure PermitLaw (s : State) : Prop where
  places : rising (s.tpc.permits.map (·.place))
  range : ∀ p ∈ s.tpc.permits, p.place < 16
  ids : (s.tpc.permits.map (·.id)).Nodup
  marks : ∀ p ∈ s.tpc.permits, p.store = markOf p.state
  records : rising (s.lst.permits.map (·.place))
  stored : ∀ p ∈ s.tpc.permits, p.store = .present ∨ p.store = .erasing → recordOf p ∈ s.lst.permits
  owned : ∀ r ∈ s.lst.permits, ∃ p ∈ s.tpc.permits, recordOf p = r ∧ (p.store = .present ∨ p.store = .erasing)
  waiting : ∀ p ∈ s.tpc.permits, ∀ o, operationOf p = some o → o ∈ permitOperations s
  operations : ∀ o ∈ permitOperations s, ∃ p ∈ s.tpc.permits, operationOf p = some o
  once : (permitOperations s).Nodup
  four : ∀ x, (s.openPermits x).length ≤ 4
  session : s.lmc.session ≠ .closed → s.lmc.mode = .survey
  committing : placedDescriptions s ≠ [] → s.lmc.session = .committing ∧ ∀ p ∈ s.tpc.permits, p.state = .ended
  single : (placedDescriptions s).length ≤ 1

/-- The law of sections under permits, with what it rests on: a section with an open permit is ISOLATING, ISOLATED or HELD, and one that
is ISOLATING or ISOLATED has one; each isolation works for open permits in REQUESTED or ISOLATING alone, on a section that is ISOLATING
or HELD; a WAITING sequence entry stands on a DEAD or TRIPPED section and a RUNNING one on an ENERGISING one, two of these at most; and a
close command in the queue finds the mode not SURVEY and no section it feeds HELD or under an open permit (R103, R113, R123, R128). -/
structure SectionLaw (s : State) : Prop where
  underPermit : ∀ r ∈ s.tpc.sections, s.permitOpen r.index = true →
    r.state = .isolating ∨ r.state = .isolated ∨ r.state = .held
  isolated : ∀ r ∈ s.tpc.sections, r.state = .isolating ∨ r.state = .isolated → s.permitOpen r.index = true
  isolations : rising (s.tpc.isolations.map (·.sec))
  works : ∀ i ∈ s.tpc.isolations, s.permitOpen i.sec = true ∧ ∀ p ∈ s.openPermits i.sec, p.isolated = true
  isolates : ∀ i ∈ s.tpc.isolations, ∀ r ∈ s.tpc.sections, r.index = i.sec → r.state = .isolating ∨ r.state = .held
  waits : ∀ r ∈ s.tpc.sections, ∀ e, r.seq = some e → e.running = none → r.state = .dead ∨ r.state = .tripped
  runs : ∀ r ∈ s.tpc.sections, ∀ e, r.seq = some e → e.running ≠ none → r.state = .energising
  two : s.runningSeqs.length ≤ 2
  closes : ∀ c ∈ s.tpc.queue, c.action = .closing → s.lmc.mode ≠ .survey ∧
    ∀ x ∈ s.desc.sectionsFed c.breaker, s.secState? x ≠ some .held ∧ s.permitOpen x = false

/-- An incident that is not CLOSED has the id. -/
def openIncident (s : State) (k : Nat) : Prop := ∃ i ∈ s.inm.incidents, i.id = k ∧ i.phase ≠ .closed

/-- The laws of incidents: no two that are not CLOSED have the same class and location; each INCIDENT reason of a hold set names one that
is not CLOSED; and each entry of origin INCIDENT names one that is not CLOSED, or is WITHDRAWING (R133, R136, R146, R153). -/
structure IncidentLaw (s : State) : Prop where
  ids : (s.inm.incidents.map (·.id)).Nodup
  single : ∀ i ∈ s.inm.incidents, ∀ j ∈ s.inm.incidents, i.phase ≠ .closed → j.phase ≠ .closed → i.cls = j.cls →
    i.location = j.location → i.id = j.id
  trains : ∀ t ∈ s.trk.trains, ∀ k, .incident k ∈ t.holds → openIncident s k
  platforms : ∀ p ∈ s.srg.plats, ∀ k, .incident k ∈ p.holds → openIncident s k
  entryIds : (s.ans.entries.map (·.id)).Nodup
  entries : ∀ e ∈ s.ans.entries, ∀ k, e.origin = .incident k → e.withdrawing ≠ none ∨ openIncident s k

/-- The law of zones: a zone is PLAYING an entry, or STOPPING it, exactly when the entry's delivery at the station is, and at each station
at most one entry has such a delivery (R153, R157). -/
structure ZoneLaw (s : State) : Prop where
  ids : (s.ans.entries.map (·.id)).Nodup
  stations : ∀ e ∈ s.ans.entries, (e.deliveries.map (·.station)).Nodup
  playing : ∀ z ∈ s.ans.zones, ∀ id o b m, z.state = .playing id o b m →
    ∃ e ∈ s.ans.entries, e.id = id ∧ ∃ d ∈ e.deliveries, d.station = z.station ∧ d.state = .playing
  stopping : ∀ z ∈ s.ans.zones, ∀ id b x m, z.state = .stopping id b x m →
    ∃ e ∈ s.ans.entries, e.id = id ∧ ∃ d ∈ e.deliveries, d.station = z.station ∧ d.state = .stopping
  plays : ∀ e ∈ s.ans.entries, ∀ d ∈ e.deliveries, d.state = .playing →
    ∃ z ∈ s.ans.zones, z.station = d.station ∧ ∃ o b m, z.state = .playing e.id o b m
  stops : ∀ e ∈ s.ans.entries, ∀ d ∈ e.deliveries, d.state = .stopping →
    ∃ z ∈ s.ans.zones, z.station = d.station ∧ ∃ b x m, z.state = .stopping e.id b x m
  single : ∀ e ∈ s.ans.entries, ∀ f ∈ s.ans.entries, ∀ d ∈ e.deliveries, ∀ c ∈ f.deliveries,
    d.busy = true → c.busy = true → d.station = c.station → e.id = f.id

/-- The expansion of the elements cannot take more than twelve phrases (R152). -/
def elementsFit (l : List Element) : Prop := (l.map worstCase).sum ≤ 12

/-- The law of frames: every body in the outbound queue fits a frame, since no template that is stored, at work, waiting or in flight can
expand to more than twelve phrases (R20, R152, R185). -/
structure FrameLaw (s : State) : Prop where
  bodies : ∀ f ∈ s.wlc.outQueue, f.body.octets.length ≤ 30
  stored : ∀ p ∈ s.lst.templates, elementsFit p.elements
  working : ∀ p ∈ s.ans.templates, elementsFit p.elements
  waiting : ∀ i l, .templateWrite i l ∈ s.lst.otherList → elementsFit l
  inFlight : ∀ i l, s.lst.inFlight = some (.templateWrite i l) → elementsFit l

/-! ### Starts -/

/-- What every start leaves (R1, R40, R63, R131, R172): the line store as a start finds it, the working description that it holds, SURVEY,
every block fresh on that description with the permits of the store reloaded, the line, the queues and the buffers of the links emptied
but for REVOKE_ALL and the polls behind it, and the commands that wait. `sequence` is the sequence counter the start comes up with. -/
structure CameUp (stored : Bool) (sequence : Nat) (s t : State) : Prop where
  store : t.lst = startStore stored s.lst
  working : t.lmc.working = startDescription t.lst.lineRegion
  session : t.lmc.session = .closed ∧ t.lmc.staged = Description.empty
  mode : t.lmc.mode = .survey ∧ t.lmc.escalation = false ∧ t.lmc.heldCount = 0
  change : t.lmc.lastChange = { old := none, new := .survey, cause := .start, time := t.lmc.lineTime, incident := none }
  readiness : t.lmc.readiness = t.readinessNow
  tracker : t.trk.trains = [] ∧ t.trk.segs = freshSegments t.lmc.working
  platforms : t.srg.plats = freshPlats t.lmc.working
  trips : t.srg.trips.map (·.number) = t.activeTrips.map (·.number)
  permits : t.tpc.permits = t.lst.permits.map (reloadPermit t.lmc.lineTime)
  sections : t.tpc.sections = t.lmc.working.sections.map (freshSection (t.tpc.permits.map (·.sec)))
  breakers : t.tpc.breakers = t.lmc.working.breakers.map freshBreaker
  power : t.tpc.queue = [] ∧ t.tpc.grants = [] ∧ t.tpc.isolations = [] ∧ t.tpc.reports = []
  incidents : t.inm.incidents = [] ∧ t.inm.lastId = 0 ∧ t.inm.drops = 0 ∧ t.inm.lastDrop = none
  responses : t.inm.responses = workingResponses t.lst.responses
  announcements : t.ans.entries = [] ∧ t.ans.zones = freshZones t.lmc.working ∧ t.ans.displays = freshDisplays t.lmc.working
  templates : t.ans.templates = workingTemplates t.lst.templates
  line : t.wlc.line = startLine s.wlc.line ∧ t.wlc.drivesMark = false
  registry : t.wlc.registry.map (fun u => (u.address, u.state)) = t.lmc.working.units.map (fun u => (u.address, .unheard))
  frames : ∃ f q, t.wlc.outQueue = f :: q ∧ f.dest = 1023 ∧ f.body = .revokeAll ∧ f.sequence = sequence
  counter : t.wlc.seqCounter = (sequence + t.wlc.outQueue.length) % 16
  received : t.wlc.inBuffer = [] ∧ t.clp.inbound = [] ∧ t.clp.restartDue = false
  armed : t.wlc.armed = false
  pending : t.pending = s.pending

/-! ### What the handling of an event may do -/

/-- The step of one state to another inside the handling of an event: the standing part stays, lines are only added to those sent, and
the capacities are kept. -/
structure Within (s t : State) : Prop where
  standing : standing t = standing s
  sent : s.clp.sent <+: t.clp.sent
  capacity : Capacity s → Capacity t

/-- The step of one state to another by a command: the commands that wait stay, SURVEY is neither entered nor left, lines are only added
to those sent, and the capacities are kept. -/
structure Keeps (s t : State) : Prop where
  pending : t.pending = s.pending
  survey : (t.lmc.mode == .survey) = (s.lmc.mode == .survey)
  sent : s.clp.sent <+: t.clp.sent
  capacity : Capacity s → Capacity t

/-! ### Requests -/

/-- The request is due: the line at the head of the inbound queue spells it (R181; log 3). -/
abbrev due (i : Instr) (s : State) : Prop := s.headSpells i = true

/-- The request ends with its reply, and its line leaves the queue; what it has done stands in the state given (R181, R182). -/
def accepted (i : Instr) (tag : Nat) (s t : State) (fields : List Field) : Prop := exec i s = .next (t.ok tag fields).popLine

/-- The request is refused with a reason and some details: one line is sent, the request's line leaves the queue, and nothing else
has changed (R182). -/
def refusedWith (i : Instr) (tag : Nat) (r : Reason) (details : List Field) (s : State) : Prop :=
  exec i s = .next (s.send (.refused tag r details)).popLine

/-- The request is refused for a reason. -/
def refusedFor (i : Instr) (tag : Nat) (r : Reason) (s : State) : Prop := ∃ d, refusedWith i tag r d s

/-- The request is refused with BAD_FIELD, and the reply names the field (R182). -/
def badlyFilled (i : Instr) (tag : Nat) (name : String) (s : State) : Prop :=
  refusedWith i tag .badField [⟨"field", .one (.word name)⟩] s

/-- A query is answered by a reply block, and the flag of its notice kind is clear; its line leaves the queue (R182, R183). -/
def listed (i : Instr) (tag : Nat) (k : NoticeKind) (s : State) (records : List (String × List Field)) : Prop :=
  exec i s = .next ((s.clearFlag k).replyBlock tag records).popLine

/-- A number given lies in a range. -/
def given (lo hi : Nat) (o : Option Nat) : Prop := ∃ n, o = some n ∧ lo ≤ n ∧ n ≤ hi

/-- A number that may be left out lies in a range when it is given. -/
def fits (lo hi : Nat) (o : Option Nat) : Prop := ∀ n, o = some n → lo ≤ n ∧ n ≤ hi

/-- A number given lies in a range, as a test. -/
def isIn (lo hi : Nat) (o : Option Nat) : Bool := o.any fun n => decide (lo ≤ n ∧ n ≤ hi)

/-- A number that may be left out lies in a range when it is given, as a test. -/
def mayBeIn (lo hi : Nat) (o : Option Nat) : Bool := o.all fun n => decide (lo ≤ n ∧ n ≤ hi)

/-- The first of some fields whose test fails (R181). -/
def firstAtFault (l : List (String × Bool)) : Option String := (l.find? fun q => !q.2).map (·.1)

/-- The tests of a record's fields, by its kind, in the order of the manual's tables and with the tests across fields last (R2 to R10,
R12; log 4). -/
def recordTests (r : RecordFields) : RecKind → List (String × Bool)
  | .station => [("index", isIn 0 31 r.index), ("name", isIn 0 4095 r.name), ("terminal", r.terminal.isSome),
      ("unit", isIn 1 1022 r.unit), ("arrival", r.arrival.isSome)]
  | .segment => [("index", isIn 0 127 r.index), ("track", r.track.isSome), ("successor", mayBeIn 0 127 r.successor),
      ("alternate", mayBeIn 0 127 r.alternate), ("platform", mayBeIn 0 63 r.platform), ("section", isIn 0 23 r.section_),
      ("unit", isIn 1 1022 r.unit), ("nominal", isIn 10 9999 r.nominal), ("filter", (r.filter.bind filterOf?).isSome),
      ("lower", isIn 0 50 r.lower), ("upper", isIn 0 50 r.upper), ("successor", r.successor != r.index),
      ("alternate", r.alternate.isNone || (r.successor.isSome && r.alternate != r.successor && r.alternate != r.index))]
  | .powerSection => [("index", isIn 0 23 r.index),
      ("feeders", r.feeders.any fun l => decide (l.length ≤ 3) && l.all fun b => decide (b ≤ 47)), ("keep-live", r.keepLive.isSome),
      ("auto-reclose", r.autoReclose.isSome), ("feeders", r.feeders.any fun l => decide l.Nodup)]
  | .substation => [("index", isIn 0 11 r.index), ("unit", isIn 1 1022 r.unit),
      ("contributions", r.contributions.any fun l => l.all fun q => decide (q.1 ≤ 23 ∧ q.2 ≤ 8)),
      ("contributions", r.contributions.any fun l => decide (l.map (·.1)).Nodup)]
  | .breaker => [("index", isIn 0 47 r.index), ("breaker_kind", r.breakerKind.isSome), ("unit", isIn 1 1022 r.unit),
      ("number", isIn 1 16 r.number), ("sections", r.sections.any fun l => decide (l.length ≤ 24) && l.all fun x => decide (x ≤ 23)),
      ("sections", r.sections.any fun l => decide l.Nodup && decide (l.length = if r.breakerKind = some .tie then 2 else 1))]
  | .unit => [("address", isIn 1 1022 r.address), ("unit_kind", r.unitKind.isSome), ("silence_limit", isIn 2 60 r.silence),
      ("silence-incident_flag", r.silenceIncident.isSome)]
  | .params => [("boundary", mayBeIn 0 86399 r.boundary), ("number_base", mayBeIn 0 3996 r.numberBase),
      ("delay_template", mayBeIn 0 255 r.delayTemplate), ("arrival_template", mayBeIn 0 255 r.arrivalTemplate),
      ("all-clear_template", mayBeIn 0 255 r.allClearTemplate)]

/-- The tests of the fields of PATTERN_SET, in their order (R34, R35; log 4). -/
def patternTests (f : PatternFields) : List (String × Bool) :=
  [("index", isIn 0 15 f.index), ("enabled", f.enabled.isSome), ("address_value", isIn 0 1023 f.addressValue),
   ("address_mask", isIn 0 1023 f.addressMask), ("kind", f.kind.isSome), ("length", f.length.any lengthInRange),
   ("offset", isIn 0 26 f.offset), ("compare_octets", f.compare.any fun l => l.length == 6),
   ("mask_octets", f.mask.any fun l => l.length == 6), ("class", f.cls.isSome), ("severity", isIn 1 4 f.severity),
   ("location", f.location.any ruleInRange), ("one-shot", f.oneShot.isSome)]

/-- The tests of the fields of TT_ADD_TRIP but for the slot, in their order (R67; log 4). -/
def tripTests (f : TripFields) : List (String × Bool) :=
  [("trip", isIn 1 9999 f.trip), ("run_number", isIn 1 9999 f.run), ("direction", f.direction.isSome),
   ("start", isIn 0 86399 f.start), ("timing_points", f.points.any fun l => decide (1 ≤ l.length ∧ l.length ≤ 32))]

/-- The tests of the fields of one timing point, in their order (R65, R67; log 4). -/
def pointTests (p : TimingPoint) : List (String × Bool) :=
  [("station", decide (p.station ≤ 31)), ("planned_arrival", mayBeIn 0 86399 p.arrival),
   ("planned_departure", mayBeIn 0 86399 p.departure), ("minimum_dwell", decide (p.dwell ≤ 300))]

/-- A timing point of a trip of `n` has the shape of its position: an arrival but at the first, a departure but at the last (R67;
log 26). -/
def shaped (n k : Nat) (p : TimingPoint) : Prop := (p.arrival ≠ none ↔ 0 < k) ∧ (p.departure ≠ none ↔ k + 1 < n)

/-- The times of a trip in their order, each with the position of its point and its name: the start time, and each point's planned
arrival and planned departure (R65, R67). -/
def tripTimes (r : TripRecord) : List (Nat × String × Nat) :=
  (0, "start", r.start) :: r.points.zipIdx.flatMap fun q =>
    (q.1.arrival.map fun t => (q.2, "planned_arrival", t)).toList ++
      (q.1.departure.map fun t => (q.2, "planned_departure", t)).toList

/-- The tests of the fields of RESPONSE_SET, in their order (R139, R140; log 4). -/
def responseTests (f : ResponseFields) : List (String × Bool) :=
  [("class", f.cls.isSome), ("severity", isIn 1 4 f.severity), ("hold-upstream", isIn 0 3 f.upstream),
   ("hold-in-place", f.inPlace.isSome), ("de-energise", f.deenergise.isSome),
   ("template", f.template.any fun w => match w with
      | .none => true
      | .one n => decide (n ≤ 255)),
   ("priority", f.priority.isSome), ("scope_rule", f.scope.isSome), ("escalate", f.escalate.isSome),
   ("all-clear", f.allClear.isSome)]

/-- A scope of ANNOUNCE is ALL, or a list of stations in range that is not empty (R153, R155; log 75). -/
def scopeInRange : ScopeArg → Bool
  | .all => true
  | .stations l => !l.isEmpty && l.all fun n => decide (n ≤ 31)

/-- A repeat is 1 to 15, or CONTINUOUS (R153). -/
def repeatInRange : Repeat → Bool
  | .times n => decide (1 ≤ n ∧ n ≤ 15)
  | .continuous => true

/-- The tests of the fields of ANNOUNCE, in the order of R153 (R155; log 17). -/
def postTests (f : PostFields) : List (String × Bool) :=
  [("template", isIn 0 255 f.template), ("station", mayBeIn 0 31 f.station), ("minutes", mayBeIn 0 999 f.minutes),
   ("platform", mayBeIn 0 63 f.platform), ("train", mayBeIn 1 999 f.train), ("priority", f.priority.isSome),
   ("scope", f.scope.any scopeInRange), ("repeat", f.rep.any repeatInRange),
   ("repeat_interval", if f.rep = some (.times 1) then f.interval.isNone else isIn 10 1800 f.interval),
   ("expiry_duration", mayBeIn 10 86400 f.expiry), ("display_flag", f.display.isSome)]

/-- The tests of the fields of INCIDENT_RAISE, in their order (R144). -/
def raiseTests (c : Option IncClass) (v : Option Nat) (l : Option Location) (n : Option Nat) : List (String × Bool) :=
  [("class", c.isSome), ("severity", isIn 1 4 v), ("location", l.any locationInRange), ("note_code", mayBeIn 1 65535 n)]

/-- A value stands in the fields of a reply. -/
def shows (v : Value) (fields : List Field) : Prop := ∃ f ∈ fields, f.value = v

/-- A request's line as a host composes it: the tag, the word, numbered fields, and the check (R179). -/
def composed (tag : Nat) (word : String) (fields : List (String × Nat)) : Text :=
  let body := joinText [' '] (natText tag :: word.toList :: fields.map fun f => f.1.toList ++ ['='] ++ natText f.2) ++ [' ']
  body ++ ['*'] ++ hexText (codeSum body % 256)

/-- A result is the move of the first member of a list for which there is one. -/
def firstMove {α : Type} (move? : State → α → Option State) (l : List α) (s : State) (r : Option State) : Prop :=
  ∀ a x b, l = a ++ x :: b → (∀ y ∈ a, move? s y = none) → move? s x ≠ none → r = move? s x

/-! ### Kinds of command -/

/-- The query requests. -/
def isQuery : Instr → Bool
  | .unitQuery .. => true
  | .patternQuery .. => true
  | .trainQuery .. => true
  | .storeQuery .. => true
  | .ttQuery .. => true
  | .tripQuery .. => true
  | .learnQuery .. => true
  | .sectionQuery .. => true
  | .permitQuery .. => true
  | .incidentQuery .. => true
  | .announceQuery .. => true
  | .zoneQuery .. => true
  | .statusQuery .. => true
  | _ => false

/-- PERMIT_QUERY, the one query that takes something out of a table (R132). -/
def isPermitQuery : Instr → Bool
  | .permitQuery .. => true
  | _ => false

/-- The expiries of timers, each of one unit, train, section, breaker, incident, entry, zone or platform. -/
def isExpiry : Instr → Bool
  | .tripLapse .. => true
  | .pollPoint .. => true
  | .silenceExpiry .. => true
  | .stallExpiry .. => true
  | .escalationExpiry .. => true
  | .targetExpiry .. => true
  | .retryExpiry .. => true
  | .authorityLapse .. => true
  | .revokeEchoLimit .. => true
  | .departureWaitExpiry .. => true
  | .startWindowExpiry .. => true
  | .regenerationWindowExpiry .. => true
  | .selectWindowExpiry .. => true
  | .operateLimitExpiry .. => true
  | .recloseDelayExpiry .. => true
  | .lockoutSpanExpiry .. => true
  | .voltageConfirmExpiry .. => true
  | .isolationConfirmExpiry .. => true
  | .entryExpiry .. => true
  | .deliveryEligible .. => true
  | .playLimitExpiry .. => true
  | .displayRefreshExpiry .. => true
  | _ => false

/-! ### Frames taken from the inbound buffer (R25, R26) -/

/-- The command that takes an accepted frame of a kind. -/
def takes : InKind → Instr
  | .trackEvent => .trackEvent
  | .trackStatus => .trackStatus
  | .powerStatus => .powerStatus
  | .selectEcho => .selectEcho
  | .revokeEcho => .revokeEcho
  | .stationStatus => .stationStatus
  | .playEnd => .playEnd
  | .alarm => .alarm

/-- What the block of a kind does with the payload of a unit: the TRK, the TPC, the SRG or the ANS; nothing for an ALARM (R26). -/
def hands : InKind → Nat → List Octet → State → State
  | .trackEvent => takeTrackEvent
  | .trackStatus => takeTrackStatus
  | .powerStatus => takePowerStatus
  | .selectEcho => takeSelectEcho
  | .revokeEcho => takeRevokeEcho
  | .stationStatus => stationReport
  | .playEnd => playReport
  | .alarm => fun _ _ s => s

/-- A frame is accepted (R25): its unit has a record, its kind is assigned and one that the unit may send, and it is no duplicate. -/
def accepts (s : State) (f : WireFrame) (k : InKind) : Prop :=
  ∃ u, s.unitRec? f.originator.toNat = some u ∧ inKind? f.kind.toNat = some k ∧ maySend u.kind k = true ∧
    u.sequence ≠ some f.sequence.toNat

/-! ### Descriptions (R13) -/

/-- A unit with a record has the kind. -/
def isUnit (d : Description) (a : Nat) (k : UnitKind) : Prop := ∃ u, d.unit? a = some u ∧ u.kind = k

/-- Check 1: every reference resolves (R13). -/
structure Resolved (d : Description) : Prop where
  stations : ∀ x ∈ d.stations, isUnit d x.unit .station
  segments : ∀ x ∈ d.segments, (∀ g, x.successor = some g → d.segment? g ≠ none) ∧
    (∀ g, x.alternate = some g → d.segment? g ≠ none) ∧ (∀ p, x.platform = some p → d.station? (p / 2) ≠ none) ∧
    d.section? x.sec ≠ none ∧ isUnit d x.unit .track
  sections : ∀ x ∈ d.sections, ∀ b ∈ x.feeders, d.breaker? b ≠ none
  substations : ∀ x ∈ d.substations, isUnit d x.unit .power ∧ ∀ q ∈ x.contributions, d.section? q.1 ≠ none
  breakers : ∀ x ∈ d.breakers, isUnit d x.unit .power ∧ ∀ y ∈ x.sections, d.section? y ≠ none

/-- Check 2: a segment joins segments of its own track, or one of the two is a TURNBACK or DEPOT segment (R13). -/
def Joined (d : Description) : Prop :=
  ∀ x ∈ d.segments, ∀ g y, x.successor = some g ∨ x.alternate = some g → d.segment? g = some y →
    x.track = y.track ∨ x.track = .turnback ∨ x.track = .depot ∨ y.track = .turnback ∨ y.track = .depot

/-- Check 3: a platform segment has a successor, a platform that no segment before it names, and the track of its platform (R13). -/
def Platformed (d : Description) : Prop :=
  ∀ x ∈ d.segments, ∀ p, x.platform = some p →
    x.successor ≠ none ∧ (∀ y ∈ d.segments, y.index < x.index → y.platform ≠ some p) ∧
      x.track = if p % 2 = 0 then .up else .down

/-- Check 4: no two breakers of a unit have one number; a track unit covers 1 to 8 segments, a station unit speaks for one station and
a power unit for one substation (R13). -/
def Covered (d : Description) : Prop :=
  (∀ x ∈ d.breakers, ∀ y ∈ d.breakers, y.index < x.index → y.unit = x.unit → y.number ≠ x.number) ∧
  ∀ u ∈ d.units,
    (u.kind = .track → 1 ≤ (d.unitSegments u.address).length ∧ (d.unitSegments u.address).length ≤ 8) ∧
    (u.kind = .station → (d.stations.filter (·.unit == u.address)).length = 1) ∧
    (u.kind = .power → (d.substations.filter (·.unit == u.address)).length = 1)

/-- Check 5: each section has feeders, each of them a FEEDER of that section; each contribution that is not 0 is fed by one FEEDER of the
substation's unit; and each FEEDER is listed by its section (R13). -/
def Fed (d : Description) : Prop :=
  (∀ x ∈ d.sections, x.feeders ≠ [] ∧ ∀ b ∈ x.feeders, d.feederSection? b = some x.index) ∧
  (∀ x ∈ d.substations, ∀ q ∈ x.contributions, q.2 ≠ 0 →
    (d.breakers.filter fun b => b.kind == .feeder && b.unit == x.unit && b.sections.contains q.1).length = 1) ∧
  ∀ b ∈ d.breakers, b.kind = .feeder →
    ∃ x c, d.feederSection? b.index = some x ∧ d.section? x = some c ∧ b.index ∈ c.feeders

/-- A test of a description: the kind and the key of a record, a field of it, and what R13 asks of it there. -/
structure DescriptionTest where
  kind : RecKind
  key : Nat
  field : String
  holds : Prop

/-- The tests of check 1, record by record (R13). -/
def referenceTests (d : Description) : List DescriptionTest :=
  (d.stations.flatMap fun x => [⟨.station, x.index, "unit", isUnit d x.unit .station⟩]) ++
  (d.segments.flatMap fun x =>
    [⟨.segment, x.index, "successor", ∀ g, x.successor = some g → d.segment? g ≠ none⟩,
     ⟨.segment, x.index, "alternate", ∀ g, x.alternate = some g → d.segment? g ≠ none⟩,
     ⟨.segment, x.index, "platform", ∀ p, x.platform = some p → d.station? (p / 2) ≠ none⟩,
     ⟨.segment, x.index, "section", d.section? x.sec ≠ none⟩,
     ⟨.segment, x.index, "unit", isUnit d x.unit .track⟩]) ++
  (d.sections.flatMap fun x => [⟨.powerSection, x.index, "feeders", ∀ b ∈ x.feeders, d.breaker? b ≠ none⟩]) ++
  (d.substations.flatMap fun x =>
    [⟨.substation, x.index, "unit", isUnit d x.unit .power⟩,
     ⟨.substation, x.index, "contributions", ∀ q ∈ x.contributions, d.section? q.1 ≠ none⟩]) ++
  (d.breakers.flatMap fun x =>
    [⟨.breaker, x.index, "unit", isUnit d x.unit .power⟩,
     ⟨.breaker, x.index, "sections", ∀ y ∈ x.sections, d.section? y ≠ none⟩])

/-- A segment and one that it may lead to are on one track, or one of them is a TURNBACK or DEPOT segment (R13, check 2). -/
def joined (d : Description) (x : Segment) (next : Option Nat) : Prop :=
  ∀ g y, next = some g → d.segment? g = some y →
    x.track = y.track ∨ x.track = .turnback ∨ x.track = .depot ∨ y.track = .turnback ∨ y.track = .depot

/-- The tests of check 2, segment by segment (R13). -/
def joinTests (d : Description) : List DescriptionTest :=
  d.segments.flatMap fun x =>
    [⟨.segment, x.index, "successor", joined d x x.successor⟩, ⟨.segment, x.index, "alternate", joined d x x.alternate⟩]

/-- The tests of check 3, segment by segment; of two that name one platform the later is at fault (R13; log 25). -/
def platformTests (d : Description) : List DescriptionTest :=
  d.segments.flatMap fun x =>
    [⟨.segment, x.index, "successor", x.platform ≠ none → x.successor ≠ none⟩,
     ⟨.segment, x.index, "platform", ∀ p, x.platform = some p →
       (∀ y ∈ d.segments, y.index < x.index → y.platform ≠ some p) ∧ x.track = if p % 2 = 0 then .up else .down⟩]

/-- The tests of check 4: the second breaker of a unit with one number, and the units by what names them (R13). -/
def unitTests (d : Description) : List DescriptionTest :=
  (d.breakers.flatMap fun x =>
    [⟨.breaker, x.index, "number", ∀ y ∈ d.breakers, y.index < x.index → y.unit = x.unit → y.number ≠ x.number⟩]) ++
  (d.units.flatMap fun u => [⟨.unit, u.address, "kind",
    (u.kind = .track → 1 ≤ (d.unitSegments u.address).length ∧ (d.unitSegments u.address).length ≤ 8) ∧
    (u.kind = .station → (d.stations.filter (·.unit == u.address)).length = 1) ∧
    (u.kind = .power → (d.substations.filter (·.unit == u.address)).length = 1)⟩])

/-- The tests of check 5; a FEEDER that its section does not list is at fault itself (R13; log 25). -/
def feederTests (d : Description) : List DescriptionTest :=
  (d.sections.flatMap fun x =>
    [⟨.powerSection, x.index, "feeders", x.feeders ≠ [] ∧ ∀ b ∈ x.feeders, d.feederSection? b = some x.index⟩]) ++
  (d.substations.flatMap fun x => [⟨.substation, x.index, "contributions", ∀ q ∈ x.contributions, q.2 ≠ 0 →
    (d.breakers.filter fun b => b.kind == .feeder && b.unit == x.unit && b.sections.contains q.1).length = 1⟩]) ++
  (d.breakers.flatMap fun b => [⟨.breaker, b.index, "sections", b.kind = .feeder →
    ∃ x c, d.feederSection? b.index = some x ∧ d.section? x = some c ∧ b.index ∈ c.feeders⟩])

/-- The tests of checks 1 to 5, in the order in which R13 makes them. -/
def descriptionTests (d : Description) : List DescriptionTest :=
  referenceTests d ++ joinTests d ++ platformTests d ++ unitTests d ++ feederTests d

/-- Checks 1 to 5 of LINE_LOAD_COMMIT, in their order (R13). -/
def descriptionChecks (d : Description) : Checked Unit := do
  checkReferences d
  checkJoins d
  checkPlatforms d
  checkUnits d
  checkFeeders d

/-! ### Incidents and announcements -/

/-- A walk upstream from a segment, one predecessor after the other and none twice, meets a platform segment of the platform before the
platform segments it has met are of `n` stations (R141). -/
def metUpstream (d : Description) (n g p : Nat) : Prop :=
  ∃ path x, (path ++ [x]).Nodup ∧ (∀ u a b v, g :: (path ++ [x]) = u ++ a :: b :: v → d.predecessor? a = some b) ∧
    d.platformOf? x = some p ∧
    ∃ stations : List Nat, stations.length < n ∧ ∀ q ∈ path.filterMap d.platformOf?, q / 2 ∈ stations

/-- From a segment along a relation, no segment met twice, the first platform segment met is of the platform (R135). -/
def metFirst (d : Description) (next : Nat → Option Nat) (g p : Nat) : Prop :=
  ∃ path x, (g :: (path ++ [x])).Nodup ∧ (∀ u a b v, g :: (path ++ [x]) = u ++ a :: b :: v → next a = some b) ∧
    (∀ y ∈ path, d.platformOf? y = none) ∧ d.platformOf? x = some p

/-- What a location that is some segments resolves to, but for its stations: it starts at them, their sections, and the trains whose head
is one of them (R135). -/
def reachesSegments (d : Description) (gs : List Nat) (r : Reach) : Prop :=
  r.starts = gs ∧ r.heads = gs ∧ ∀ x, x ∈ r.sections ↔ ∃ g ∈ gs, d.sectionOf? g = some x

/-- What a location that is some sections resolves to: it starts at their segments whose predecessor is absent or outside them, the
sections, the trains whose head is in them, and the stations that have a platform segment there (R135). -/
def reachesSections (d : Description) (xs : List Nat) (r : Reach) : Prop :=
  r.sections = xs ∧ (∀ g, g ∈ r.heads ↔ ∃ x ∈ xs, g ∈ d.segmentsIn x) ∧
    (∀ g, g ∈ r.starts ↔ ∃ x ∈ xs, g ∈ d.segmentsIn x ∧ (d.predecessor? g).bind d.sectionOf? ≠ some x) ∧
    ∀ st, st ∈ r.stations ↔ ∃ x ∈ xs, ∃ g ∈ d.segmentsIn x, ∃ p, d.platformOf? g = some p ∧ st = p / 2

/-- Of the entries of a list that meet a condition, this one is the oldest of the highest priority (R157, R164). -/
def foremost (p : Entry → Prop) (l : List Entry) (e : Entry) : Prop :=
  ∃ a b, l = a ++ e :: b ∧ p e ∧ (∀ x ∈ a, p x → priorityRank e.priority < priorityRank x.priority) ∧
    ∀ x ∈ b, p x → priorityRank e.priority ≤ priorityRank x.priority

/-- A delivery of an entry at a station is PENDING and its next eligible time has come (R153). -/
def eligible (s : State) (st : Nat) (e : Entry) : Prop :=
  ∃ d ∈ e.deliveries, d.station = st ∧ d.state = .pending ∧ d.eligible ≤ s.lmc.count

/-- A zone may select the entry: it is ACTIVE with an eligible delivery at the station, the line mode allows it, and in LOCAL it is of
EMERGENCY priority (R157, R163). -/
def mayPlay (s : State) (st : Nat) (isLocal : Bool) (e : Entry) : Prop :=
  e.withdrawing = none ∧ eligible s st e ∧
    (isPassenger s.lmc.mode = true ∨ (isNight s.lmc.mode = true ∧ e.priority = .emergency)) ∧
    (isLocal = true → e.priority = .emergency)

/-- The displays of a station may show the entry: it is ACTIVE, to be displayed, and has the station in its scope, and at night it is of
EMERGENCY priority (R164). -/
def mayShow (st : Nat) (night : Bool) (e : Entry) : Prop :=
  e.withdrawing = none ∧ e.display = true ∧ (∃ d ∈ e.deliveries, d.station = st) ∧ (night = true → e.priority = .emergency)

/-- The causes that demote a request of NIGHT_HELD (R169). -/
def demotes (s : State) (w : String) : Prop :=
  (w = "TRAINS_POSITIONING" ∧ ∃ t ∈ s.trk.trains, t.state = .positioning) ∨
  (w = "TRAINS_LOST" ∧ ∃ t ∈ s.trk.trains, t.state = .lost) ∨
  (w = "INCIDENTS_OPEN" ∧ ∃ i ∈ s.inm.incidents, i.phase ≠ .closed ∧ 3 ≤ i.severity)

end Sys2Proof.Safety
end

