-- ==== Sys2Proof/Certificates/Slice0/Obligations.lean ====
section
/-!
DEFINITION. The statements for the provers. A request is stated for every line that spells it (`due`); where a step ends with the work
that one event leaves to be settled, the statement gives the state before that work and says so (`State.conclude`, log 10). Notices that
an accepted request raises stand before its reply, and the record words of reply blocks are the model's choice (log 5).
-/

open Sys2Proof Sys2Proof.Machine Sys2Proof.Safety

/-! ### Steps -/

/-- The step of a state takes the command at the front of its queue and carries it out on the state with the rest of the queue. -/
def Obligations.StepRunsTheFront : Prop :=
  ∀ (c : Instr) (rest : List Instr) (s : State), step { s with pending := c :: rest } = exec c { s with pending := rest }

/-- With no command waiting the part idles, and placing a word of the table puts no command there, since no row of the table gives bits
(the model's choice, log 18). -/
def Obligations.EmptyQueueIdles : Prop :=
  ∀ (s : State) (n w : Nat), s.pending = [] → step s = .next s ∧ step (s.withFetchWord n w) = .next s

/-- Every step of every state ends in a next state. -/
def Obligations.EveryStepGoesOn : Prop := ∀ s : State, goesOn s

/-- Every command but the two starts and SURVEY_END leaves the commands that wait alone, neither enters nor leaves SURVEY, takes back
no line sent, and keeps the fifteen capacities and ranges of `Capacity`. -/
def Obligations.CommandsKeep : Prop :=
  ∀ (c : Instr) (s t : State), (∀ b, c ≠ .powerOn b) → (∀ b, c ≠ .restartStart b) → (∀ g m, c ≠ .surveyEnd g m) →
    exec c s = .next t → Keeps s t

/-- Every step keeps the fifteen capacities and ranges of `Capacity`: the queues and buffers of the links, the patterns, line time, the
slots and the staging buffer, the other waiting list, the breaker commands, and the tables of trains, incidents with their links, and
announcements. The permit table and list stand in `PermitLawKept`, the running sequences in `SectionLawKept`. -/
def Obligations.CapacityKept : Prop := kept Capacity

/-- The tables are keyed, and every law of the laws below holds at reset. -/
def Obligations.LawsAtReset : Prop :=
  let s := State.reset
  Capacity s ∧ Keyed s ∧ PositionLaw s ∧ AuthorityLaw s ∧ BudgetLaw s ∧ SlotLaw s ∧ PermitLaw s ∧ SectionLaw s ∧ IncidentLaw s ∧
    ZoneLaw s ∧ FrameLaw s

/-! ### The laws of the device -/

/-- Every step keeps the keys of the tables: the records of each table rise in their index, address or number, and so do those of every
description that the part holds. -/
def Obligations.KeyedKept : Prop := kept Keyed

/-- Every step keeps the law of the train and segment tables: a segment is OCCUPIED with a number exactly when it is the head or the tail
of that train, and the train is not LOST. -/
def Obligations.PositionLawKept : Prop := keptUnder Sound PositionLaw

/-- Every step keeps the law of authorities: one is ISSUED only while the hold sets of its train and its platform are empty, the train
holds a grant in the section of the platform's next segment, and the mode is TRAFFIC or REDUCED. -/
def Obligations.AuthorityLawKept : Prop := keptUnder Sound AuthorityLaw

/-- Every step keeps the law of slots: the active and the scheduled slot are NONE or VALID, and at most one slot is WRITING or
COMMITTING. -/
def Obligations.SlotLawKept : Prop := kept SlotLaw

/-- A grant request is granted exactly when the section is ENERGISED and the tokens in use there, without a grant of the train itself, and
the tokens asked for are within the section's limit; the tokens in use are then within the limit. After a step the tokens in use in a
section are within its limit, or no grant was made there in the step, or the limit has fallen in it. Every step keeps the law of
budgets. -/
def Obligations.TokensKept : Prop :=
  (∀ (n x draw window : Nat) (s : State),
    let t := { s with tpc.grants := s.tpc.grants.filter (·.train != n) }
    let r := requestGrant n x draw window s
    (r.1 = true ↔ s.secState? x = some .energised ∧ t.tokensUsed x + draw ≤ s.tokenLimit x) ∧
    (r.1 = false → r.2 = t) ∧
    (r.1 = true → r.2.tokensUsed x ≤ r.2.tokenLimit x ∧
      r.2.grant? n = some { train := n, sec := x, tokens := draw, expiry := s.lmc.count + window } ∧
      ∀ m, m ≠ n → r.2.grant? m = s.grant? m)) ∧
  (∀ s t : State, Keyed s → follows s t → ∀ x, t.tokensUsed x ≤ t.tokenLimit x ∨
    (t.tpc.grants.filter (·.sec == x)).Sublist (s.tpc.grants.filter (·.sec == x)) ∨ t.tokenLimit x < s.tokenLimit x) ∧
  keptUnder Keyed BudgetLaw

/-- Every step keeps the law of permits: an ISSUED permit has its record in the store, at most four permits of a section are open, and
the store's permit operations are those that permits wait for, one each. So the permit table holds at most 16 permits, and the permit
list at most 16 operations. -/
def Obligations.PermitLawKept : Prop :=
  kept PermitLaw ∧ ∀ s, PermitLaw s → s.tpc.permits.length ≤ 16 ∧ s.lst.permitList.length ≤ 16

/-- Every step keeps the law of sections under permits: a section with an open permit is ISOLATING, ISOLATED or HELD; at most two
sequences run; and a close command in the queue finds the mode not SURVEY and no section it feeds HELD or under an open permit. -/
def Obligations.SectionLawKept : Prop := keptUnder (fun s => Sound s ∧ PermitLaw s) SectionLaw

/-- Every step keeps the laws of incidents: no two that are not CLOSED have the same class and location; each INCIDENT reason of a hold set
names one that is not CLOSED; and each entry of origin INCIDENT names one that is not CLOSED, or is WITHDRAWING. -/
def Obligations.IncidentLawKept : Prop := keptUnder Sound IncidentLaw

/-- Every step keeps the law of zones: a zone is PLAYING or STOPPING exactly when one delivery at its station is, and at most one is. -/
def Obligations.ZoneLawKept : Prop := keptUnder Sound ZoneLaw

/-! ### Starts -/

/-- What the part holds after POWER_ON on a line store that has never been written is State.reset but for the line use, which a start leaves
to a unit's frame (log 21), and the commands that wait; and the values of State.reset are those that the manual gives for POWER_ON (that the
store holds nothing is the model's choice, log 6). -/
def Obligations.PowerOnReachesReset : Prop :=
  (∀ (stored : Bool) (s : State), s.lst = Lst.blank →
    exec (.powerOn stored) s = .next { State.reset with wlc.line := startLine s.wlc.line, pending := s.pending }) ∧
  let s := State.reset
  s.lmc.count = 0 ∧ s.lmc.lineTime = 0 ∧ s.lmc.timeSet = false ∧ s.lmc.mode = .survey ∧ s.lmc.escalation = false ∧
    s.lmc.session = .closed ∧ s.lmc.startRecord = { cause := .powerOn, count := 0, lineTime := 0, timeSet := false, restarts := 0 } ∧
    s.lmc.readiness = some .notReady ∧ s.trk.trains = [] ∧ s.trk.stallLimit = 120 ∧
    s.srg.peak = { method := .schedule, headway := 90, tolerance := 10, window := 25 } ∧
    s.srg.offPeak = { method := .schedule, headway := 300, tolerance := 20, window := 25 } ∧
    s.srg.onThreshold = 180 ∧ s.srg.offThreshold = 60 ∧
    s.inm.periods = { trainStopped := 120, powerTrip := 60, powerDiscrepancy := 120, passengerAlarm := 60, platformFault := 180,
                      obstruction := 60, fieldSilence := 300, trackDiscrepancy := 180, operator := 600 } ∧
    s.inm.incidents = [] ∧ s.ans.entries = [] ∧ s.tpc.permits = [] ∧ s.wlc.armed = false ∧ s.wlc.patterns.length = 16 ∧
    (∀ p ∈ s.wlc.patterns, p.enabled = false ∧ p.spent = false ∧ p.matched = 0) ∧
    s.wlc.outQueue.map (fun f => (f.dest, f.body, f.sequence)) = [(1023, .revokeAll, 0)] ∧ s.clp.inbound = [] ∧ s.pending = []

/-- POWER_ON: whatever the state before, nothing is kept but what the store's regions hold, the line where a unit's frame has it (log 21),
and the commands that wait; the operand says whether the store has carried out the operation in flight (log 9). The blocks come up, the
first line sent is the MODE notice and the first frame of the outbound queue REVOKE_ALL. -/
def Obligations.PowerOnStarts : Prop :=
  ∀ (stored : Bool) (s : State), ∃ t, exec (.powerOn stored) s = .next t ∧ CameUp stored 0 s t ∧
    t.lmc.count = 0 ∧ t.lmc.lineTime = 0 ∧ t.lmc.timeSet = false ∧
    t.lmc.startRecord = { cause := .powerOn, count := 0, lineTime := 0, timeSet := false, restarts := 0 } ∧
    t.trk.stallLimit = 120 ∧ t.srg.peak = Regulation.peakPowerOn ∧ t.srg.offPeak = Regulation.offPeakPowerOn ∧
    t.srg.onThreshold = 180 ∧ t.srg.offThreshold = 60 ∧ t.inm.periods = Periods.powerOn ∧
    t.srg.learned = startLearned [] t.lmc.working ∧ t.wlc.patterns = List.replicate 16 Pattern.empty ∧
    ∃ f l, t.clp.sent = .notice .mode f :: l

/-- RESTART and RESTART_START. The reply to RESTART goes out, the start is to follow, and no request is taken until then. The start keeps
the clock, the count of RESTARTs, the learned run times within the stored limits, the parameter sets, thresholds, periods and stall limit,
the fields of the trigger patterns, the sequence counter and the counters of ids, a boundary that is due (log 41) and the line where a
unit's frame has it (log 21); the operand says whether the store has carried out the operation in flight (log 9); the lines sent before
it stay, and it adds its own (log 5); the blocks come up as after POWER_ON. At another moment RESTART_START changes nothing (log 1). -/
def Obligations.Restarts : Prop :=
  (∀ (tag : Nat) (s : State), due (.restart tag) s →
    ∃ t, exec (.restart tag) s = .next t ∧ t = { (s.ok tag []).popLine with clp.restartDue := true } ∧
      ∀ i, t.headSpells i = false) ∧
  (∀ (stored : Bool) (s : State), s.clp.restartDue = false → exec (.restartStart stored) s = .next s) ∧
  (∀ (stored : Bool) (s : State), s.clp.restartDue = true → ∃ t, exec (.restartStart stored) s = .next t ∧
    CameUp stored s.wlc.seqCounter s t ∧ t.lmc.count = s.lmc.count ∧ t.lmc.lineTime = s.lmc.lineTime ∧
    t.lmc.timeSet = s.lmc.timeSet ∧ t.lmc.boundaryDue = s.lmc.boundaryDue ∧
    t.lmc.startRecord = { cause := .restart, count := s.lmc.count, lineTime := s.lmc.lineTime, timeSet := s.lmc.timeSet,
                          restarts := saturate 65535 s.lmc.startRecord.restarts } ∧
    t.srg.peak = s.srg.peak ∧ t.srg.offPeak = s.srg.offPeak ∧ t.srg.onThreshold = s.srg.onThreshold ∧
    t.srg.offThreshold = s.srg.offThreshold ∧ t.inm.periods = s.inm.periods ∧ t.trk.stallLimit = s.trk.stallLimit ∧
    t.srg.learned = startLearned s.srg.learned t.lmc.working ∧
    t.wlc.patterns = s.wlc.patterns.map (fun p => { p with spent := false, matched := 0 }) ∧
    t.srg.authorityLast = s.srg.authorityLast ∧ t.tpc.nextCode = s.tpc.nextCode ∧ t.tpc.permitLast = s.tpc.permitLast ∧
    t.ans.lastId = s.ans.lastId ∧ ∃ f l, t.clp.sent = s.clp.sent ++ .notice .mode f :: l)

/-! ### The clock -/

/-- SECOND_TICK and TRAFFIC_DAY_BOUNDARY. The running count goes on by one, line time goes on by one and wraps after 86,399, and nothing
else changes but the model's mark that the boundary is due, which is set when line time comes to the boundary with the time-set flag set
(log 2). When the boundary is due it is taken, once: the scheduled slot, if any, becomes the active one and nothing stays scheduled, and
the trip state table has a record for each trip of the active slot, in order. When it is not due the command changes nothing (log 1). -/
def Obligations.ClockAdvances : Prop :=
  (∀ s : State, s.lmc.lineTime ≤ 86399 →
    let t := if s.lmc.lineTime = 86399 then 0 else s.lmc.lineTime + 1
    exec .secondTick s = .next { s with
      lmc.count := s.lmc.count + 1, lmc.lineTime := t,
      lmc.boundaryDue := s.lmc.boundaryDue || (s.lmc.timeSet && decide (t = s.boundary)) }) ∧
  (∀ s : State,
    (s.lmc.boundaryDue = false → exec .trafficDayBoundary s = .next s) ∧
    (s.lmc.boundaryDue = true → ∃ u : State, exec .trafficDayBoundary s = .next u.conclude ∧ u.lmc.boundaryDue = false ∧
      u.lst.active = (if s.lst.scheduled.isSome then s.lst.scheduled else s.lst.active) ∧ u.lst.scheduled = none ∧
      u.srg.trips.map (·.number) = u.activeTrips.map (·.number) ∧ u.lmc.lineTime = s.lmc.lineTime ∧
      u.lmc.working = s.lmc.working ∧ u.lst.slots = s.lst.slots))

/-- TIME_SET: line time takes the value and the time-set flag is set; the boundary is taken when the flag was set and the shorter way
forward passes it; then the trips that have reached their lapse lapse. The running count stays. The survey readiness is computed as the
time-set flag is set (log 76). -/
def Obligations.TimeSetSets : Prop :=
  ∀ (tag : Nat) (time : Option Nat) (s : State), due (.timeSet tag time) s →
    (¬ given 0 86399 time → badlyFilled (.timeSet tag time) tag "time" s) ∧
    ∀ n, time = some n → n ≤ 86399 →
      let t := { s with lmc.lineTime := n, lmc.timeSet := true }.updateReadiness
      let takes := s.lmc.timeSet = true ∧ 1 ≤ forward s.lmc.lineTime n ∧ forward s.lmc.lineTime n ≤ 43200 ∧
        1 ≤ forward s.lmc.lineTime s.boundary ∧ forward s.lmc.lineTime s.boundary ≤ forward s.lmc.lineTime n
      (takes → ∃ f, accepted (.timeSet tag time) tag s (lapseTrips (takeBoundary t)).conclude f) ∧
      (¬ takes → ∃ f, accepted (.timeSet tag time) tag s (lapseTrips t).conclude f)

/-- A PENDING trip lapses when the offset of line time has reached its start offset plus 300 s with the time-set flag set: as the event of
TRIP_LAPSE, which acts also when that moment has passed (log 2) and otherwise changes nothing (log 1), at TIME_SET and at a rebuild. It
becomes LAPSED with a TRIP notice. A start offset of 86,100 or more gives no lapse, and a trip that has lapsed does not return. -/
def Obligations.TripsLapse : Prop :=
  (∀ (k : Nat) (s : State) (r : TripState), s.tripState? k = some r →
    (r.status = .pending ∧ s.lmc.timeSet = true ∧ s.offset r.start + 300 ≤ s.nowOffset →
      exec (.tripLapse k) s =
        .next ((s.modTrip k fun q => { q with status := .lapsed, train := none, cause := none }).tripNotice k)) ∧
    (¬ (r.status = .pending ∧ s.lmc.timeSet = true ∧ s.offset r.start + 300 ≤ s.nowOffset) →
      exec (.tripLapse k) s = .next s)) ∧
  (∀ (k : Nat) (s : State), s.tripState? k = none → exec (.tripLapse k) s = .next s) ∧
  (∀ s : State, ∀ r ∈ (lapseTrips s).srg.trips, r.status = .pending →
    ¬ (s.lmc.timeSet = true ∧ s.offset r.start + 300 ≤ s.nowOffset)) ∧
  (∀ s : State, ∀ r ∈ s.srg.trips, r.status = .lapsed →
    ∃ q ∈ (lapseTrips s).srg.trips, q.number = r.number ∧ q.status = .lapsed) ∧
  (∀ (s : State) (r : TripRecord), (rebuiltTrip s r).status = .pending →
    ¬ (s.lmc.timeSet = true ∧ s.offset r.start + 300 ≤ s.nowOffset)) ∧
  (∀ (s : State) (start : Nat), s.lmc.lineTime < 86400 → s.boundary < 86400 → 86100 ≤ s.offset start → s.lapsed start = false)

/-! ### The control link -/

/-- LINE_ARRIVAL: the carriage return before the line feed is dropped; then the line is judged in its order: too long, empty, a wrong
check, no room, and otherwise it joins the queue behind those there. Between the reply to RESTART and the start a line is discarded. -/
def Obligations.ArrivingLineJudged : Prop :=
  ∀ (chars : Text) (s : State),
    let cs := if chars.getLast? = some '\r' then chars.dropLast else chars
    exec (.lineArrival chars) s = .next (
      if s.clp.restartDue then s
      else if 1024 < cs.length then s.send (.refused 0 .tooLong [])
      else if cs = [] then s
      else if checkOk cs = false then s.send (.refused 0 .check [])
      else if 8 ≤ s.clp.inbound.length then s.send (.refused (lineTag cs) .linkBusy [])
      else { s with clp.inbound := s.clp.inbound ++ [cs] })

/-- UNKNOWN_REQUEST: the line at the head that spells no request is refused: a bad tag with BAD_FIELD, field tag, under tag 0; an
unknown word with UNKNOWN_REQUEST; a field at fault with BAD_FIELD, naming it. The line leaves the queue. A line that spells a request
is left for its own command (logs 1 and 3). -/
def Obligations.UnknownRequestRefused : Prop :=
  ∀ (l : Text) (q : List Text) (s : State), s.clp.inbound = l :: q → s.clp.restartDue = false →
    (∀ tag, readLine l = .refused (.unknownRequest tag) →
      exec .unknownRequest s = .next (s.send (.refused tag .unknownRequest [])).popLine) ∧
    (readLine l = .refused .tag →
      exec .unknownRequest s = .next (s.send (.refused 0 .badField [⟨"field", .one (.word "tag")⟩])).popLine) ∧
    (∀ tag n, readLine l = .refused (.field tag n) →
      exec .unknownRequest s = .next (s.send (.refused tag .badField [⟨"field", .one (.word (String.ofList n))⟩])).popLine) ∧
    (∀ i, readLine l = .request i → exec .unknownRequest s = .next s)

/-- A number below 10^20 written in decimal digits is read back; a line of STATUS_QUERY, TIME_SET or TRAIN_SET_DRAW composed as the manual
says passes the check and reads as the request it stands for, with every tag and every number below 10^20. -/
def Obligations.ComposedRequestsRead : Prop :=
  (∀ n, n < 10 ^ 20 → parseNum (natText n) = some n) ∧
  ∀ tag, 1 ≤ tag → tag ≤ 9999 →
    checkOk (composed tag "STATUS_QUERY" []) = true ∧
    readLine (composed tag "STATUS_QUERY" []) = .request (.statusQuery tag) ∧
    (∀ n, n < 10 ^ 20 → checkOk (composed tag "TIME_SET" [("time", n)]) = true ∧
      readLine (composed tag "TIME_SET" [("time", n)]) = .request (.timeSet tag (some n))) ∧
    (∀ n c, n < 10 ^ 20 → c < 10 ^ 20 → checkOk (composed tag "TRAIN_SET_DRAW" [("number", n), ("draw_class", c)]) = true ∧
      readLine (composed tag "TRAIN_SET_DRAW" [("number", n), ("draw_class", c)]) =
        .request (.trainSetDraw tag (some n) (some c)))

/-- A frame of the part with a body of at most 30 octets is, as it goes out, a good frame: its length field counts its octets and its
check is correct. Every step keeps the law of frames, by which every body in the outbound queue has at most 30 octets, since no template
that is stored, at work, waiting or in flight can expand to more than twelve phrases. -/
def Obligations.SentFramesAreGood : Prop :=
  (∀ f : OutFrame, f.body.octets.length ≤ 30 → frameGood (wireFrame f) = true) ∧ kept FrameLaw

/-- At an event of a kind whose flag is set nothing is sent; at one whose flag is clear one line is sent and the flag is set. -/
def Obligations.OneNoticePerFlag : Prop :=
  ∀ (k : NoticeKind) (l : List Field) (s : State),
    (s.clp.flags.get k = true → s.notice k l = s) ∧
    (s.clp.flags.get k = false → (s.notice k l).clp.sent = s.clp.sent ++ [.notice k l] ∧
      (s.notice k l).clp.flags.get k = true ∧ ∀ j, j ≠ k → (s.notice k l).clp.flags.get j = s.clp.flags.get j)

/-! ### The line model -/

/-- LINE_LOAD_BEGIN and LINE_LOAD_COMMIT. The session is begun in SURVEY alone, refused with MODE elsewhere and with BUSY while a commit
is going on: the staged description is empty with the default parameters, the session is OPEN, and the reply says whether it was OPEN
before. A commit is refused with STATE unless the session is OPEN; then the five checks of the description, the first that fails refusing
with BAD_FIELD and the kind, key and field of the record at fault, that of the first test that fails, in the order of the checks and, in
each, of the records (which of two records is named: log 25); then PERMIT_OPEN while a permit is open, naming the lowest section with one,
and STORE_BUSY when the other list is full. Otherwise the session is COMMITTING and the description's operation stands at the end of the
other list. Each of the five checks passes exactly when its condition holds. -/
def Obligations.DescriptionLoadsAndCommits : Prop :=
  (∀ (tag : Nat) (s : State), due (.lineLoadBegin tag) s →
    (s.lmc.mode ≠ .survey → refusedWith (.lineLoadBegin tag) tag .mode [] s) ∧
    (s.lmc.mode = .survey → s.lmc.session = .committing → refusedWith (.lineLoadBegin tag) tag .busy [] s) ∧
    (s.lmc.mode = .survey → s.lmc.session ≠ .committing →
      ∃ f, accepted (.lineLoadBegin tag) tag s { s with lmc.staged := Description.empty, lmc.session := .opened }.conclude f ∧
        shows (vYes (s.lmc.session == .opened)) f)) ∧
  (∀ (tag : Nat) (s : State), due (.lineLoadCommit tag) s →
    (s.lmc.session ≠ .opened → refusedWith (.lineLoadCommit tag) tag .state [] s) ∧
    (s.lmc.session = .opened →
      (∀ e, descriptionChecks s.lmc.staged = .error e → ∃ k n w,
        refusedWith (.lineLoadCommit tag) tag .badField
          [⟨"kind", vWord (recKindWord k)⟩, ⟨"index", vNum n⟩, ⟨"field", vWord w⟩] s) ∧
      (descriptionChecks s.lmc.staged = .ok () →
        (∀ p ∈ s.tpc.permits, p.state ≠ .ended → (∀ q ∈ s.tpc.permits, q.state ≠ .ended → p.sec ≤ q.sec) →
          refusedWith (.lineLoadCommit tag) tag .permitOpen [⟨"index", vNum p.sec⟩] s) ∧
        ((∀ p ∈ s.tpc.permits, p.state = .ended) →
          (4 ≤ s.lst.otherList.length → refusedWith (.lineLoadCommit tag) tag .storeBusy [] s) ∧
          (s.lst.otherList.length < 4 → ∃ f, accepted (.lineLoadCommit tag) tag s
            (State.startOp { s with lmc.session := .committing,
                                    lst.otherList := s.lst.otherList ++ [.lineDescription s.lmc.staged] }).conclude f))))) ∧
  (∀ d : Description,
    (checkReferences d = .ok () ↔ Resolved d) ∧ (checkJoins d = .ok () ↔ Joined d) ∧
    (checkPlatforms d = .ok () ↔ Platformed d) ∧ (checkUnits d = .ok () ↔ Covered d) ∧ (checkFeeders d = .ok () ↔ Fed d) ∧
    (descriptionChecks d = .ok () ↔ Resolved d ∧ Joined d ∧ Platformed d ∧ Covered d ∧ Fed d)) ∧
  (∀ (tag : Nat) (s : State), due (.lineLoadCommit tag) s → s.lmc.session = .opened →
    (∀ a x b, descriptionTests s.lmc.staged = a ++ x :: b → (∀ y ∈ a, y.holds) → ¬ x.holds →
      refusedWith (.lineLoadCommit tag) tag .badField
        [⟨"kind", vWord (recKindWord x.kind)⟩, ⟨"index", vNum x.key⟩, ⟨"field", vWord x.field⟩] s) ∧
    ((∀ x ∈ descriptionTests s.lmc.staged, x.holds) ↔ descriptionChecks s.lmc.staged = .ok ()))

/-- LINE_LOAD_RECORD: refused with STATE unless the session is OPEN, and with BAD_FIELD for a field of its kind that is absent, out of
range or at odds with another; otherwise a record of each of the seven kinds takes its place in the staged description in the order of
its key, over one with the same key. Nothing else changes. Fields of another kind are not read (log 37). The names breaker_kind and
unit_kind, by which a refusal names the field kind of a breaker or a unit, are the model's choice (log 4). -/
def Obligations.RecordsAreStaged : Prop :=
  ∀ (tag : Nat) (r : RecordFields) (s : State), due (.lineLoadRecord tag r) s →
    (s.lmc.session ≠ .opened → refusedWith (.lineLoadRecord tag r) tag .state [] s) ∧
    (s.lmc.session = .opened → r.kind = none → badlyFilled (.lineLoadRecord tag r) tag "kind" s) ∧
    (∀ k name, s.lmc.session = .opened → r.kind = some k → firstAtFault (recordTests r k) = some name →
      badlyFilled (.lineLoadRecord tag r) tag name s) ∧
    (s.lmc.session = .opened →
      (∀ x : Station, r.kind = some .station → r.index = some x.index → r.name = some x.name → r.terminal = some x.terminal →
        r.unit = some x.unit → r.arrival = some x.arrival → x.index ≤ 31 → x.name ≤ 4095 → 1 ≤ x.unit → x.unit ≤ 1022 →
        ∃ f, accepted (.lineLoadRecord tag r) tag s
          { s with lmc.staged.stations := insertBy (·.index) x s.lmc.staged.stations } f) ∧
      (∀ x : Segment, r.kind = some .segment → r.index = some x.index → r.track = some x.track → r.successor = x.successor →
        r.alternate = x.alternate → r.platform = x.platform → r.section_ = some x.sec → r.unit = some x.unit →
        r.nominal = some x.nominal → r.filter.bind filterOf? = some x.filter → r.lower = some x.lower → r.upper = some x.upper →
        x.index ≤ 127 →
        fits 0 127 x.successor → fits 0 127 x.alternate → fits 0 63 x.platform → x.sec ≤ 23 → 1 ≤ x.unit → x.unit ≤ 1022 →
        10 ≤ x.nominal → x.nominal ≤ 9999 → x.lower ≤ 50 → x.upper ≤ 50 → x.successor ≠ some x.index →
        (x.alternate = none ∨ (x.successor ≠ none ∧ x.alternate ≠ x.successor ∧ x.alternate ≠ some x.index)) →
        ∃ f, accepted (.lineLoadRecord tag r) tag s
          { s with lmc.staged.segments := insertBy (·.index) x s.lmc.staged.segments } f) ∧
      (∀ x : SectionDesc, r.kind = some .powerSection → r.index = some x.index → r.feeders = some x.feeders →
        r.keepLive = some x.keepLive → r.autoReclose = some x.autoReclose → x.index ≤ 23 → x.feeders.length ≤ 3 →
        (∀ b ∈ x.feeders, b ≤ 47) → x.feeders.Nodup →
        ∃ f, accepted (.lineLoadRecord tag r) tag s
          { s with lmc.staged.sections := insertBy (·.index) x s.lmc.staged.sections } f) ∧
      (∀ x : Substation, r.kind = some .substation → r.index = some x.index → r.unit = some x.unit →
        r.contributions = some x.contributions → x.index ≤ 11 → 1 ≤ x.unit → x.unit ≤ 1022 →
        (∀ q ∈ x.contributions, q.1 ≤ 23 ∧ q.2 ≤ 8) → (x.contributions.map (·.1)).Nodup →
        ∃ f, accepted (.lineLoadRecord tag r) tag s
          { s with lmc.staged.substations := insertBy (·.index) x s.lmc.staged.substations } f) ∧
      (∀ x : BreakerDesc, r.kind = some .breaker → r.index = some x.index → r.breakerKind = some x.kind → r.unit = some x.unit →
        r.number = some x.number → r.sections = some x.sections → x.index ≤ 47 → 1 ≤ x.unit → x.unit ≤ 1022 → 1 ≤ x.number →
        x.number ≤ 16 → (∀ n ∈ x.sections, n ≤ 23) → x.sections.Nodup → x.sections.length = (if x.kind = .tie then 2 else 1) →
        ∃ f, accepted (.lineLoadRecord tag r) tag s
          { s with lmc.staged.breakers := insertBy (·.index) x s.lmc.staged.breakers } f) ∧
      (∀ x : UnitDesc, r.kind = some .unit → r.address = some x.address → r.unitKind = some x.kind → r.silence = some x.silence →
        r.silenceIncident = some x.silenceIncident → 1 ≤ x.address → x.address ≤ 1022 → 2 ≤ x.silence → x.silence ≤ 60 →
        ((s.lmc.staged.unit? x.address = none → 96 ≤ s.lmc.staged.units.length →
            refusedWith (.lineLoadRecord tag r) tag .full [] s) ∧
          ((s.lmc.staged.unit? x.address ≠ none ∨ s.lmc.staged.units.length < 96) →
            ∃ f, accepted (.lineLoadRecord tag r) tag s
              { s with lmc.staged.units := insertBy (·.address) x s.lmc.staged.units } f))) ∧
      (r.kind = some .params → fits 0 86399 r.boundary → fits 0 3996 r.numberBase → fits 0 255 r.delayTemplate →
        fits 0 255 r.arrivalTemplate → fits 0 255 r.allClearTemplate →
        ∃ f, accepted (.lineLoadRecord tag r) tag s
          { s with lmc.staged.params :=
            { boundary := r.boundary.getD s.lmc.staged.params.boundary,
              numberBase := r.numberBase.getD s.lmc.staged.params.numberBase,
              delayTemplate := r.delayTemplate.getD s.lmc.staged.params.delayTemplate,
              arrivalTemplate := r.arrivalTemplate.getD s.lmc.staged.params.arrivalTemplate,
              allClearTemplate := r.allClearTemplate.getD s.lmc.staged.params.allClearTemplate } } f))

/-- LINE_DESCRIPTION_COMPLETION: with the operation of a description in flight, DONE makes it the stored and the working description,
closes the session, clears both indices, and empties what was built on the old one, with REVOKE_ALL the one frame queued and the inbound
frames gone (log 42); the slots, the clock and the settings stay. FAILED leaves the region DAMAGED and the working description as it is.
With another operation, or none, nothing changes (log 1). After DONE every section and breaker of the new description has a fresh record
with its state UNKNOWN, every zone is UNREACHABLE and every display has no last content; the patterns stay, READY and with nothing
matched; the ids last given of incidents and permits stay, so do the mode and its escalation, the held count is 0, and the STORE flag is
set. -/
def Obligations.DescriptionCompletes : Prop :=
  (∀ (o : StoreOutcome) (s : State), (∀ d, s.lst.inFlight ≠ some (.lineDescription d)) →
    exec (.lineDescriptionCompletion o) s = .next s) ∧
  (∀ (d : Description) (s : State), s.lst.inFlight = some (.lineDescription d) →
    (∃ u : State, exec (.lineDescriptionCompletion .done) s = .next u.conclude ∧ u.lst.inFlight = none ∧
      u.lst.lineRegion = .whole d ∧ u.lmc.working = d ∧ u.lmc.session = .closed ∧ u.lmc.staged = Description.empty ∧
      u.lst.active = none ∧ u.lst.scheduled = none ∧ u.lst.storedActive = none ∧ u.lst.storedScheduled = none ∧
      u.trk.trains = [] ∧ u.trk.segs = freshSegments d ∧ u.srg.trips = [] ∧ u.srg.plats = freshPlats d ∧
      u.srg.learned = freshLearned d ∧ u.tpc.queue = [] ∧ u.tpc.grants = [] ∧ u.tpc.isolations = [] ∧ u.tpc.permits = [] ∧
      u.inm.incidents = [] ∧ u.ans.entries = [] ∧ u.wlc.armed = false ∧ u.wlc.inBuffer = [] ∧
      u.wlc.outQueue.map (fun f => (f.dest, f.body)) = [(1023, .revokeAll)] ∧
      u.wlc.registry.map (fun x => (x.address, x.state)) = d.units.map (fun x => (x.address, .unheard)) ∧
      u.lst.slots = s.lst.slots ∧ u.lmc.count = s.lmc.count ∧ u.lmc.lineTime = s.lmc.lineTime ∧
      u.trk.stallLimit = s.trk.stallLimit ∧ u.srg.peak = s.srg.peak ∧ u.srg.offPeak = s.srg.offPeak ∧
      u.inm.periods = s.inm.periods) ∧
    (∃ l, exec (.lineDescriptionCompletion .failed) s = .next (State.notice .store l
      { s with lst.inFlight := none, lst.lineRegion := .damaged, lmc.session := .closed,
               lmc.staged := Description.empty }).conclude)) ∧
  (∀ (d : Description) (s : State), s.lst.inFlight = some (.lineDescription d) →
    ∃ u : State, exec (.lineDescriptionCompletion .done) s = .next u.conclude ∧
      u.tpc.sections = d.sections.map (fun x =>
        { index := x.index, state := .unknown, voltage := .unknown, lockout := false, reclose := none, span := none, seq := none,
          lastSeq := none, budget := 0, window := none, claims := [] }) ∧
      u.tpc.breakers = d.breakers.map (fun x =>
        { index := x.index, state := .unknown, outcome := none, position := none, voltage := none, owed := none }) ∧
      u.ans.zones = d.stations.map (fun x => { station := x.index, state := .unreachable, mic := none }) ∧
      u.ans.displays = d.platforms.map (fun p => { platform := p, last := none, refresh := none }) ∧
      u.wlc.patterns = s.wlc.patterns.map (fun p => { p with spent := false, matched := 0 }) ∧
      u.inm.lastId = s.inm.lastId ∧ u.tpc.permitLast = s.tpc.permitLast ∧ u.lmc.heldCount = 0 ∧ u.lmc.mode = s.lmc.mode ∧
      u.lmc.escalation = s.lmc.escalation ∧ u.clp.flags.get .store = true)

/-! ### Queries -/

/-- The thirteen queries: the lines they list, with the record words and field names of the model (log 5), the flag of the kind cleared
where the query has one, and their refusals. A number, an index or an id decides when a second field is given with it (log 30).
PERMIT_QUERY takes the ENDED permits it lists out of the table. -/
def Obligations.QueriesAnswer : Prop :=
  (∀ (tag : Nat) (a : Option Nat) (s : State), due (.unitQuery tag a) s →
    (¬ fits 1 1022 a → badlyFilled (.unitQuery tag a) tag "address" s) ∧
    (a = none → listed (.unitQuery tag a) tag .unit s (linkLine s :: s.wlc.registry.map unitLine)) ∧
    (∀ n, a = some n → fits 1 1022 a →
      (s.unitRec? n = none → refusedWith (.unitQuery tag a) tag .notFound [] s) ∧
      (∀ u, s.unitRec? n = some u → listed (.unitQuery tag a) tag .unit s [linkLine s, unitLine u]))) ∧
  (∀ (tag : Nat) (i : Option Nat) (s : State), due (.patternQuery tag i) s →
    (¬ fits 0 15 i → badlyFilled (.patternQuery tag i) tag "index" s) ∧
    (fits 0 15 i → listed (.patternQuery tag i) tag .pattern s
      (("SET", [⟨"state", vWord (armedWord s.wlc.armed)⟩]) ::
        ((s.wlc.patterns.zipIdx.filter fun q => i.all (· == q.2)).map fun q => patternLine q.2 q.1)))) ∧
  (∀ (tag : Nat) (s : State), due (.storeQuery tag) s → listed (.storeQuery tag) tag .store s (storeLines s)) ∧
  (∀ (tag : Nat) (s : State), due (.statusQuery tag) s → listed (.statusQuery tag) tag .mode s
    [statusModeLine s, statusClockLine s, ("START", startFields s.lmc.startRecord), statusSurveyLine s, statusNightLine s,
     statusStoreLine s]) ∧
  (∀ (tag : Nat) (n : Option Nat) (w : Option What) (s : State), due (.trainQuery tag n w) s →
    (¬ fits 1 999 n → badlyFilled (.trainQuery tag n w) tag "number" s) ∧
    (∀ k, n = some k → fits 1 999 n →
      (s.train? k = none → refusedWith (.trainQuery tag n w) tag .notFound [] s) ∧
      (∀ r, s.train? k = some r → listed (.trainQuery tag n w) tag .train s [trainsLine s, trainLine s.now r])) ∧
    (n = none → w = some .segments → listed (.trainQuery tag n w) tag .train s (s.trk.segs.map segmentLine)) ∧
    (n = none → w ≠ some .segments →
      listed (.trainQuery tag n w) tag .train s (trainsLine s :: s.trk.trains.map (trainLine s.now)))) ∧
  (∀ (tag : Nat) (n : Option Nat) (w : Option What) (s : State), due (.tripQuery tag n w) s →
    (¬ fits 1 9999 n → badlyFilled (.tripQuery tag n w) tag "trip" s) ∧
    (∀ k, n = some k → fits 1 9999 n →
      (s.tripState? k = none → refusedWith (.tripQuery tag n w) tag .notFound [] s) ∧
      (∀ r, s.tripState? k = some r → listed (.tripQuery tag n w) tag .trip s [tripsLine s, tripStateLine r])) ∧
    (n = none → w = some .platforms → listed (.tripQuery tag n w) tag .trip s (s.srg.plats.map (platformLine s))) ∧
    (n = none → w ≠ some .platforms →
      listed (.tripQuery tag n w) tag .trip s (tripsLine s :: s.srg.trips.map tripStateLine))) ∧
  (∀ (tag : Nat) (i n : Option Nat) (s : State), due (.ttQuery tag i n) s →
    (¬ given 0 3 i → badlyFilled (.ttQuery tag i n) tag "slot" s) ∧
    (∀ j x, i = some j → j ≤ 3 → s.slot? j = some x →
      (¬ fits 1 9999 n → badlyFilled (.ttQuery tag i n) tag "trip" s) ∧
      (n = none → exec (.ttQuery tag i n) s =
        .next (s.replyBlock tag (("SLOT", slotLine j x ++ slotUse s j) :: (listedTrips s x).map tripLine)).popLine) ∧
      (∀ k, n = some k → fits 1 9999 n →
        ((listedTrips s x).find? (·.number == k) = none → refusedWith (.ttQuery tag i n) tag .notFound [] s) ∧
        (∀ r, (listedTrips s x).find? (·.number == k) = some r → exec (.ttQuery tag i n) s =
          .next (s.replyBlock tag (("SLOT", slotLine j x ++ slotUse s j) :: tripLine r :: r.points.map pointLine)).popLine)))) ∧
  (∀ (tag : Nat) (g : Option Nat) (s : State), due (.learnQuery tag g) s →
    (¬ fits 0 127 g → badlyFilled (.learnQuery tag g) tag "segment" s) ∧
    (g = none → exec (.learnQuery tag g) s = .next (s.replyBlock tag (s.desc.segments.map (learnLine s))).popLine) ∧
    (∀ i, g = some i → fits 0 127 g →
      (s.desc.segment? i = none → refusedWith (.learnQuery tag g) tag .notFound [] s) ∧
      (∀ x, s.desc.segment? i = some x → exec (.learnQuery tag g) s = .next (s.replyBlock tag [learnLine s x]).popLine))) ∧
  (∀ (tag : Nat) (x : Option Nat) (w : Option What) (s : State), due (.sectionQuery tag x w) s →
    (x ≠ none → ¬ given 0 23 x → badlyFilled (.sectionQuery tag x w) tag "section" s) ∧
    (∀ n, x = some n → n ≤ 23 →
      (s.sec? n = none → refusedWith (.sectionQuery tag x w) tag .notFound [] s) ∧
      (∀ r, s.sec? n = some r → listed (.sectionQuery tag x w) tag .section_ s
        (powerLine s :: sectionLine s r ::
          (s.tpc.breakers.filter fun b => (s.desc.sectionsFed b.index).contains r.index).map (breakerLine s) ++
          (s.tpc.grants.filter (·.sec == r.index)).map (grantLine s)))) ∧
    (x = none → w = some .breakers → listed (.sectionQuery tag x w) tag .section_ s (s.tpc.breakers.map (breakerLine s))) ∧
    (x = none → w = some .grants → listed (.sectionQuery tag x w) tag .section_ s (s.tpc.grants.map (grantLine s))) ∧
    (x = none → w ≠ some .breakers → w ≠ some .grants →
      listed (.sectionQuery tag x w) tag .section_ s (powerLine s :: s.tpc.sections.map (sectionLine s)))) ∧
  (∀ (tag : Nat) (i x : Option Nat) (s : State), due (.permitQuery tag i x) s →
    let answers := fun (l : List Permit) (more : List (String × List Field)) =>
      exec (.permitQuery tag i x) s = .next
        { ((s.clearFlag .permit).replyBlock tag (permitTableLine s :: more ++ (byId l).map permitLine)).popLine with
          tpc.permits := s.tpc.permits.filter fun p => p.isOpen || !(l.map (·.id)).contains p.id }
    (¬ fits 1 255 i → badlyFilled (.permitQuery tag i x) tag "id" s) ∧
    (fits 1 255 i → ¬ fits 0 23 x → badlyFilled (.permitQuery tag i x) tag "section" s) ∧
    (fits 1 255 i → fits 0 23 x →
      (∀ n, i = some n → s.permit? n = none → refusedWith (.permitQuery tag i x) tag .notFound [] s) ∧
      (∀ n p, i = some n → s.permit? n = some p → answers [p] []) ∧
      (∀ n, i = none → x = some n → s.sec? n = none → refusedWith (.permitQuery tag i x) tag .notFound [] s) ∧
      (∀ n r, i = none → x = some n → s.sec? n = some r →
        answers (s.tpc.permits.filter (·.sec == n)) [permitSectionLine s r]) ∧
      (i = none → x = none → answers s.tpc.permits []))) ∧
  (∀ (tag : Nat) (i : Option Nat) (w : Option What) (s : State), due (.incidentQuery tag i w) s →
    (¬ fits 1 65535 i → badlyFilled (.incidentQuery tag i w) tag "id" s) ∧
    (∀ n, i = some n → fits 1 65535 i →
      (s.incident? n = none → refusedWith (.incidentQuery tag i w) tag .notFound [] s) ∧
      (∀ r, s.incident? n = some r → listed (.incidentQuery tag i w) tag .incident s [incidentTableLine s, incidentLine s r])) ∧
    (i = none → listed (.incidentQuery tag i w) tag .incident s (incidentTableLine s :: incidentLines s w))) ∧
  (∀ (tag : Nat) (i : Option Nat) (w : Option What) (s : State), due (.announceQuery tag i w) s →
    (¬ fits 1 255 i → badlyFilled (.announceQuery tag i w) tag "id" s) ∧
    (∀ n, i = some n → fits 1 255 i →
      (s.entry? n = none → refusedWith (.announceQuery tag i w) tag .notFound [] s) ∧
      (∀ e, s.entry? n = some e → listed (.announceQuery tag i w) tag .announce s
        (announceTableLine s :: entryLine s e :: e.deliveries.map (deliveryLine s)))) ∧
    (i = none → w = some .templates → listed (.announceQuery tag i w) tag .announce s
      (announceTableLine s :: (List.range 256).map (templateLine s))) ∧
    (i = none → w ≠ some .templates → listed (.announceQuery tag i w) tag .announce s
      (announceTableLine s :: s.ans.entries.map (entryLine s)))) ∧
  (∀ (tag : Nat) (x : Option Nat) (s : State), due (.zoneQuery tag x) s →
    (¬ fits 0 31 x → badlyFilled (.zoneQuery tag x) tag "station" s) ∧
    (x = none → listed (.zoneQuery tag x) tag .announce s (s.ans.zones.flatMap (zoneLines s))) ∧
    (∀ n, x = some n → fits 0 31 x →
      (s.zone? n = none → refusedWith (.zoneQuery tag x) tag .notFound [] s) ∧
      (∀ z, s.zone? n = some z → listed (.zoneQuery tag x) tag .announce s (zoneLines s z))))

/-- A query changes nothing but the lines sent, the flags, and its own line in the queue; PERMIT_QUERY also takes permits that have
ENDED out of the table. -/
def Obligations.QueriesKeep : Prop :=
  ∀ (i : Instr) (s t : State), isQuery i = true → exec i s = .next t →
    t = { s with clp := t.clp, tpc.permits := t.tpc.permits } ∧ t.tpc.permits.Sublist s.tpc.permits ∧
    (∀ p ∈ s.tpc.permits, p.state ≠ .ended → p ∈ t.tpc.permits) ∧ (isPermitQuery i = false → t.tpc.permits = s.tpc.permits) ∧
    s.clp.sent <+: t.clp.sent ∧ (t.clp.inbound = s.clp.inbound ∨ t.clp.inbound = s.clp.inbound.tail)

/-! ### The wayside link -/

/-- PATTERN_SET: an entry whose every field is in range, its location known, takes the place of the index given, READY with matches 0;
the set becomes UNARMED and a PATTERN notice is raised. Refused with BAD_FIELD, naming the first field that is absent or out of range,
the index before the others (the names of the fields are of log 4), and with NOT_FOUND, field location, for a location without a
record. -/
def Obligations.PatternSetReplaces : Prop :=
  ∀ (tag : Nat) (f : PatternFields) (s : State), due (.patternSet tag f) s →
    (∀ name, firstAtFault (patternTests f) = some name → badlyFilled (.patternSet tag f) tag name s) ∧
    (∀ (i : Nat) (p : Pattern), i ≤ 15 →
      f = { index := some i, enabled := some p.enabled, addressValue := some p.addressValue, addressMask := some p.addressMask,
            kind := some p.kind, length := some p.length, offset := some p.offset, compare := some p.compare, mask := some p.mask,
            cls := some p.cls, severity := some p.severity, location := some p.location, oneShot := some p.oneShot } →
      p.addressValue ≤ 1023 → p.addressMask ≤ 1023 → (∀ n, p.length = .one n → n ≤ 32) → p.offset ≤ 26 → p.compare.length = 6 →
      p.mask.length = 6 → 1 ≤ p.severity → p.severity ≤ 4 → ruleInRange p.location = true → p.spent = false → p.matched = 0 →
      (ruleKnown s.desc p.location = false →
        refusedWith (.patternSet tag f) tag .notFound [⟨"field", vWord "location"⟩] s) ∧
      (ruleKnown s.desc p.location = true → ∃ l g, accepted (.patternSet tag f) tag s
        (State.notice .pattern l { s with wlc.patterns := s.wlc.patterns.modify i fun _ => p, wlc.armed := false }) g))

/-- R36: PATTERN_ARM in every mode. Refused with BAD_FIELD, naming the lowest index and the field offset, if an enabled entry has an
exact length that its window runs past; otherwise every entry becomes READY, its matches kept, the set becomes or stays ARMED, and a
PATTERN notice is raised. The law: the set leaves ARMED at an accepted PATTERN_SET, at either start and at a replacement, and only an
accepted PATTERN_ARM makes it ARMED. -/
def Obligations.PatternArming : Prop :=
  (∀ (tag : Nat) (s : State), due (.patternArm tag) s →
    let bad := fun p : Pattern => p.enabled = true ∧ ∃ n, p.length = .one n ∧ n < p.offset + 6
    (∀ k p, s.wlc.patterns[k]? = some p → bad p → (∀ j q, j < k → s.wlc.patterns[j]? = some q → ¬ bad q) →
      refusedWith (.patternArm tag) tag .badField [⟨"index", vNum k⟩, ⟨"field", vWord "offset"⟩] s) ∧
    ((∀ p ∈ s.wlc.patterns, ¬ bad p) → ∃ l f, accepted (.patternArm tag) tag s (State.notice .pattern l
      { s with wlc.patterns := s.wlc.patterns.map fun p => { p with spent := false }, wlc.armed := true }) f)) ∧
  (∀ (tag : Nat) (f : PatternFields) (s t : State), due (.patternSet tag f) s → exec (.patternSet tag f) s = .next t →
    t.wlc.armed = false ∨ ∃ r d, refusedWith (.patternSet tag f) tag r d s) ∧
  (∀ (stored : Bool) (s t : State), exec (.powerOn stored) s = .next t → t.wlc.armed = false) ∧
  (∀ (stored : Bool) (s t : State), s.clp.restartDue = true → exec (.restartStart stored) s = .next t → t.wlc.armed = false) ∧
  (∀ (d : Description) (s t : State), s.lst.inFlight = some (.lineDescription d) →
    exec (.lineDescriptionCompletion .done) s = .next t → t.wlc.armed = false) ∧
  (∀ (c : Instr) (s t : State), exec c s = .next t → t.wlc.armed = true →
    s.wlc.armed = true ∨ ∃ tag, c = .patternArm tag ∧ due c s)

/-- TRY_START and TRY_END. With the line free, the frame at the head of the queue goes out unless a unit starts a more urgent one at the
same moment, which then has the line; with the line taken or nothing queued nothing changes (log 1). A try that ends without a mark leaves
the frame DELIVERED and out of the queue, and its unit's failed deliveries become 0. One that ends with a mark leaves it WITHDRAWN if that
was asked, also where its unit went STALE (log 21), FAILED if its unit went STALE, or else there with one try more up to the third, which
ends it FAILED and is counted against its unit. The outcome of a try that a replacement dropped reaches nobody. Without a try of the part
TRY_END changes nothing (log 1). The outcome of a frame reaches the block that posted it, by its kind: AUTHORISE, SELECT, OPERATE and PLAY
as the clauses of their functions say, a DISPLAY that FAILED leaves its display without a last content, and a REVOKE_ALL that FAILED is
posted again, at most twice, and then raises the UNIT notice; those of POLL, REVOKE, CANCEL_SELECT and STOP_PLAY reach nobody. -/
def Obligations.TriesStartAndEnd : Prop :=
  (∀ (rivals : List Rival) (s : State),
    (s.wlc.line ≠ .free → exec (.tryStart rivals) s = .next s) ∧
    (s.wlc.outQueue = [] → exec (.tryStart rivals) s = .next s) ∧
    (∀ f q, s.wlc.line = .free → s.wlc.outQueue = f :: q →
      ((∃ r ∈ rivals, r.urgency.toNat < f.body.urgency) → exec (.tryStart rivals) s = .next { s with wlc.line := .unit }) ∧
      ((∀ r ∈ rivals, f.body.urgency ≤ r.urgency.toNat) → exec (.tryStart rivals) s =
        .next { s with wlc.line := .part (wireFrame f) false, wlc.outQueue := { f with onLine := true } :: q }))) ∧
  (∀ (mark : Bool) (s : State), (∀ g d, s.wlc.line ≠ .part g d) → exec (.tryEnd mark) s = .next s) ∧
  (∀ (mark : Bool) (g : WireFrame) (s : State), s.wlc.line = .part g true →
    exec (.tryEnd mark) s = .next { s with wlc.line := .free }.conclude) ∧
  (∀ (g : WireFrame) (f : OutFrame) (s : State), s.wlc.line = .part g false → s.wlc.outQueue.find? (·.onLine) = some f →
    let t := { s with wlc.line := .free, wlc.outQueue := s.wlc.outQueue.filter fun x => !x.onLine }
    exec (.tryEnd false) s = .next (reportFrame f .delivered (t.modUnit f.dest fun u => { u with failures := 0 })).conclude ∧
    (f.withdrawing = true → exec (.tryEnd true) s = .next (reportFrame f .withdrawn t).conclude) ∧
    (f.withdrawing = false → f.removing = true → exec (.tryEnd true) s = .next (reportFrame f .failed t).conclude) ∧
    (f.withdrawing = false → f.removing = false → 2 ≤ f.tries →
      exec (.tryEnd true) s = .next (countFailure f.dest (reportFrame f .failed t)).conclude) ∧
    (f.withdrawing = false → f.removing = false → f.tries < 2 →
      exec (.tryEnd true) s = .next (State.conclude
        { s with wlc.line := .free,
                 wlc.outQueue := s.wlc.outQueue.map fun x =>
                   if x.onLine then { x with onLine := false, tries := x.tries + 1 } else x }))) ∧
  (∀ (f : OutFrame) (o : FrameEnd) (s : State),
    let t := reportFrame f o s
    (f.body = .poll ∨ (∃ id, f.body = .revoke id ∨ f.body = .stopPlay id) ∨ (∃ n c, f.body = .cancelSelect n c) → t = s) ∧
    (f.body = .revokeAll → (o ≠ .failed → t = s) ∧
      (o = .failed → s.wlc.revokeAllPosts < 2 →
        t = postOrDrop 1023 .revokeAll { s with wlc.revokeAllPosts := s.wlc.revokeAllPosts + 1 }) ∧
      (o = .failed → 2 ≤ s.wlc.revokeAllPosts → t = s.unitNotice 1023)) ∧
    (∀ p n id, f.body = .authorise p n id → t = authoriseOutcome id o s) ∧
    (∀ n a c, f.body = .select n a c → t = selectOutcome f n c o s) ∧
    (∀ n c, f.body = .operate n c → t = operateOutcome f c o s) ∧
    (∀ e v m l, f.body = .play e v m l → t = playOutcome f e o s) ∧
    (∀ p d, f.body = .display p d → t = if o = .failed then s.modDisplay p fun x => { x with last := none } else s))

/-- FRAME_RECEIVE, and the commands that take the frame at the head of the inbound buffer. The line is free after a frame; the part drives
the mark when the frame is bad or the inbound buffer holds 16, and takes a frame that nobody marked to the end of the buffer. A frame that
is accepted is taken by the command of its kind (TRACK_EVENT, TRACK_STATUS, POWER_STATUS, SELECT_ECHO, REVOKE_ECHO, STATION_STATUS,
PLAY_END, ALARM): its unit is heard and its sequence recorded, the patterns are tested, and its block has the payload. One that is not
accepted is taken by INBOUND_FRAME_DISCARDED, its unit heard if it has a record. Either way it leaves the buffer. At another moment the
commands change nothing (log 1). What hearing a unit leaves: its record LIVE, with the time and a fresh silence timer, and nothing else of
a unit that was LIVE; of another, the UNIT notice, the budgets of a power unit's sections with its contributions, and the FIELD_SILENCE
incident of a STALE one closed unless it is CONTAINED. What testing the patterns leaves: nothing while the set is UNARMED; each entry that
matches has one match more and is SPENT if it is one-shot and the mode is a night mode, no other entry changes, and one that matches alone
raises its class and severity at the location that its rule gives, with a PATTERN notice. An entry matches when it is enabled and READY
and the address, kind, length and window of the frame agree with it in every bit that its masks compare. What a track frame's payload
does: a TRACK_EVENT of another length than 4, or with a kind, number or segment that it may not have, raises TRACK_DISCREPANCY at severity
2 at the unit; LEAVE clears the segment, and a train that had its head there is LOST; ENTER places the train numbered, by a move, a
relocation, a recovery or a creation, or the one train behind where no number is given, or leaves the segment OCCUPIED_UNIDENTIFIED. A
TRACK_STATUS, read entry by entry, raises so for each entry that fails, and then takes the CLEAR entries, the unnumbered OCCUPIED ones and
the numbers, ascending, each pass by its table. Each change is made to the tables first, then its raises and closures, then its reports.
That entries that fail raise before the first pass, which of two segments that follow each other is the head, and this order inside a pass
are log 31. What placing a train does to the tables and the reports is stated in `TrainsNamedAndWithdrawn`, arrivals and departures in
`TripsAssignedAndCancelled`, and what the other payloads do: REVOKE_ECHO in `LearningAndAuthorities`, SELECT_ECHO in `SectionsSwitched`,
POWER_STATUS in `SectionTakesState`, STATION_STATUS and PLAY_END in `AnnouncementTimersExpire`. -/
def Obligations.FramesReceived : Prop :=
  (∀ (f : WireFrame) (mark : Bool) (s : State),
    (∀ g d, s.wlc.line = .part g d → exec (.frameReceive f mark) s = .next s) ∧
    ((∀ g d, s.wlc.line ≠ .part g d) →
      (frameGood f = true → s.wlc.inBuffer.length < 16 → mark = false → exec (.frameReceive f mark) s =
        .next { s with wlc.line := .free, wlc.drivesMark := false, wlc.inBuffer := s.wlc.inBuffer ++ [f] }) ∧
      (frameGood f = true → s.wlc.inBuffer.length < 16 → mark = true → exec (.frameReceive f mark) s =
        .next { s with wlc.line := .free, wlc.drivesMark := false }) ∧
      (frameGood f = false ∨ 16 ≤ s.wlc.inBuffer.length → exec (.frameReceive f mark) s =
        .next { s with wlc.line := .free, wlc.drivesMark := true }))) ∧
  (∀ s : State,
    (s.wlc.inBuffer = [] → exec .inboundFrameDiscarded s = .next s ∧ ∀ k, exec (takes k) s = .next s) ∧
    (∀ f q, s.wlc.inBuffer = f :: q →
      let a := f.originator.toNat
      (∀ k, accepts s f k →
        exec .inboundFrameDiscarded s = .next s ∧
        exec (takes k) s = .next (popFrame (hands k a f.payload (matchPatterns k f
          ((hear a s).modUnit a fun u => { u with sequence := some f.sequence.toNat })))).conclude) ∧
      (∀ k, ¬ accepts s f k → exec (takes k) s = .next s) ∧
      ((∀ k, ¬ accepts s f k) → exec .inboundFrameDiscarded s = .next (popFrame (hear a s)).conclude))) ∧
  (∀ (a : Nat) (s : State),
    (s.unitRec? a = none → hear a s = s) ∧
    (∀ u, s.unitRec? a = some u →
      let limit := s.silenceLimit a
      let fresh := fun r : UnitRec =>
        { r with state := .live, heard := some s.lmc.lineTime, silenceExpiry := s.lmc.count + limit,
                 pollPoint := s.lmc.count + limit / 2, pollPassed := false : UnitRec }
      let t := hear a s
      t.unitRec? a = some (fresh u) ∧
      (u.state = .live → t = s.modUnit a fresh) ∧
      (u.state ≠ .live → t.clp.flags.get .unit = true ∧
        (u.kind = .power → ∀ x ∈ s.desc.unitSections a, ∀ r, t.sec? x = some r → r.budget = t.budgetNow x)) ∧
      (u.state = .unheard → t.inm = s.inm) ∧
      (u.state = .stale →
        (∀ i, s.openIncident? .fieldSilence (.unit a) = some i → i.phase ≠ .contained → s.incident? i.id = some i →
          t.incident? i.id = some { i with links := [], phase := .closed, closedAt := some s.lmc.lineTime,
                                           cause := some .automatic, escalation := none }) ∧
        ((∀ i, s.openIncident? .fieldSilence (.unit a) = some i → i.phase = .contained) → t.inm = s.inm)))) ∧
  (∀ (k : InKind) (f : WireFrame) (s : State),
    let a := f.originator.toNat
    let t := matchPatterns k f s
    (s.wlc.armed = false → t = s) ∧
    (s.wlc.armed = true → s.wlc.patterns.length = 16 →
      (∀ (i : Nat) (p : Pattern), s.wlc.patterns[i]? = some p →
        (patternMatches p k f = false → t.wlc.patterns[i]? = some p) ∧
        (patternMatches p k f = true → t.wlc.patterns[i]? =
          some { p with matched := saturate 65535 p.matched, spent := p.oneShot && isNight s.lmc.mode })) ∧
      ((∀ p ∈ s.wlc.patterns, patternMatches p k f = false) → t = s) ∧
      (∀ (i : Nat) (p : Pattern), s.wlc.patterns[i]? = some p → patternMatches p k f = true →
        (∀ j q, j ≠ i → s.wlc.patterns[j]? = some q → patternMatches q k f = false) →
        let u := raised p.cls p.severity (patternLocation s.desc p.location a) (.pattern i)
          { s with wlc.patterns := s.wlc.patterns.modify i fun q => { q with matched := saturate 65535 q.matched } }
        ∃ l, t = State.notice .pattern l
          (if p.oneShot && isNight u.lmc.mode then
            { u with wlc.patterns := u.wlc.patterns.modify i fun q => { q with spent := true } }
          else u)))) ∧
  (∀ (p : Pattern) (k : InKind) (f : WireFrame), patternMatches p k f = true ↔
    p.enabled = true ∧ p.spent = false ∧
    (∀ i, p.addressMask.testBit i = true → f.originator.toNat.testBit i = p.addressValue.testBit i) ∧
    (p.kind = .any ∨ p.kind = .kind k) ∧ (p.length = .any ∨ p.length = .one f.payload.length) ∧
    p.offset + 6 ≤ f.payload.length ∧
    ∀ j x c m, j < 6 → f.payload[p.offset + j]? = some x → p.compare[j]? = some c → p.mask[j]? = some m → x &&& m = c &&& m) ∧
  (∀ (d : Description) (a : Nat),
    (∀ l, patternLocation d (.fixed l) a = if locationKnown d l then l else .line) ∧
    (d.unit? a = none → patternLocation d .unitLocation a = .line) ∧
    (∀ u, d.unit? a = some u →
      (u.kind = .station → patternLocation d .unitLocation a = (d.unitStation? a).elim .line .station) ∧
      (u.kind = .track → patternLocation d .unitLocation a = (d.unitSegments a).head?.elim .line .segment) ∧
      (u.kind = .power → patternLocation d .unitLocation a = (d.unitSections a).head?.elim .line .powerSection))) ∧
  (∀ (a : Nat) (p : List Octet) (s : State),
    let u := takeTrackEvent a p s
    let told := raised .trackDiscrepancy 2 (.unit a) .tracker s
    (p.length ≠ 4 → u = told) ∧
    (∀ e x h l, p = [e, x, h, l] →
      let g := x.toNat
      let n := 256 * h.toNat + l.toNat
      let covers := ∃ y, s.desc.segment? g = some y ∧ y.unit = a
      (1 < e.toNat ∨ 999 < n ∨ ¬ covers → u = told) ∧
      (n ≤ 999 → covers →
        (e.toNat = 1 → u = trackStep (leave g) none s) ∧
        (e.toNat = 0 → n = 0 →
          ((∃ t ∈ s.trk.trains, t.state ≠ .lost ∧ t.head = g) → u = s) ∧
          ((∀ t ∈ s.trk.trains, t.state ≠ .lost → t.head ≠ g) →
            let behind := s.trk.trains.filter fun t => t.state != .lost && s.desc.follows g t.head
            (∀ t, behind = [t] → u = place t.number g (some t.head) .move s) ∧
            (behind.length ≠ 1 → u = unidentify [g] g s))) ∧
        (e.toNat = 0 → n ≠ 0 →
          (∀ t, s.train? n = some t →
            (t.state = .lost → u = place n g none .recovery s) ∧
            (t.state ≠ .lost → t.head = g → u = s) ∧
            (t.state ≠ .lost → t.head ≠ g → s.desc.follows g t.head = true → u = place n g (some t.head) .move s) ∧
            (t.state ≠ .lost → t.head ≠ g → s.desc.follows g t.head = false → u = place n g none .relocation s)) ∧
          (s.train? n = none →
            let depot := ∃ y ∈ s.desc.segments, y.track = .depot ∧ s.desc.follows g y.index = true
            (depot → s.trk.trains.length < 48 → u = place n g none .creation s) ∧
            (¬ depot ∨ 48 ≤ s.trk.trains.length → u = unidentify [g] g s)))))) ∧
  (∀ (a : Nat) (p : List Octet) (s : State),
    let tell := raised .trackDiscrepancy 2 (.unit a) .tracker
    let covers := fun e : TrackEntry => decide (e.number ≤ 999) && (s.desc.segment? e.segment).any (·.unit == a)
    (readTrackStatus p = none → takeTrackStatus a p s = tell s) ∧
    (∀ l, readTrackStatus p = some l →
      let segs := fun q : TrackEntry → Bool => ascending ((l.filter fun e => covers e && q e).map (·.segment))
      let t := forEach (l.filter fun e => !covers e) (fun _ u => tell u) s
      let u := trackStep (eachTables (segs fun e => !e.occupied) leave) none t
      let v := trackStep (eachTables (segs fun e => e.occupied && e.number == 0) occupiedUnnumbered) none u
      takeTrackStatus a p s =
        forEach (ascending ((l.filter fun e => covers e && (e.occupied && e.number != 0)).map (·.number)))
          (fun m => numberedStatus m (segs fun e => e.occupied && e.number == m)) v)) ∧
  (∀ (g : Nat) (s : State),
    (s.occ g = .unknown → occupiedUnnumbered g s = (s.setOcc g .unidentified, [])) ∧
    (s.occ g = .clear → occupiedUnnumbered g s = (s.setOcc g .unidentified, [.discrepancy g])) ∧
    (s.occ g ≠ .unknown → s.occ g ≠ .clear → occupiedUnnumbered g s = (s, []))) ∧
  (∀ (m : Nat) (l : List Nat) (s : State),
    let u := numberedStatus m l s
    (∀ g q, l = g :: q → positionOf s.desc l = none → u = unidentify l g s) ∧
    (∀ h tail, positionOf s.desc l = some (h, tail) →
      (∀ t, s.train? m = some t →
        let mine := t.head :: t.tail.toList
        (t.state = .lost → u = place m h tail .recovery s) ∧
        (t.state ≠ .lost → (∀ g ∈ l, g ∈ mine) → u = s) ∧
        (t.state ≠ .lost → (∃ g ∈ l, g ∉ mine) →
          (∀ k back, positionOf s.desc (ascending (l ++ mine)) = some (k, back) → u = place m k back .move s) ∧
          (positionOf s.desc (ascending (l ++ mine)) = none → u = place m h tail .relocation s))) ∧
      (s.train? m = none →
        (s.lmc.mode = .survey → s.trk.trains.length < 48 → u = place m h tail .creation s) ∧
        (s.lmc.mode ≠ .survey ∨ 48 ≤ s.trk.trains.length → u = unidentify l h s)))) ∧
  (∀ (d : Description) (l : List Nat) (h : Nat) (tail : Option Nat), positionOf d l = some (h, tail) ↔
    (l = [h] ∧ tail = none) ∨ ∃ g, tail = some g ∧ d.follows h g = true ∧ (l = [g, h] ∨ (l = [h, g] ∧ d.follows g h = false))) ∧
  (∀ (f : Nat → State → Tables) (s : State), eachTables [] f s = (s, []) ∧
    ∀ l x, eachTables (l ++ [x]) f s = ((f x (eachTables l f s).1).1, (eachTables l f s).2 ++ (f x (eachTables l f s).1).2)) ∧
  (∀ p : List Octet,
    ((∀ n r, p = n :: r → ¬ (1 ≤ n.toNat ∧ n.toNat ≤ 8 ∧ r.length = 3 * n.toNat)) → readTrackStatus p = none) ∧
    (∀ n r, p = n :: r → 1 ≤ n.toNat → n.toNat ≤ 8 → r.length = 3 * n.toNat → ∃ l, readTrackStatus p = some l ∧
      l.length = n.toNat ∧ ∀ k g h x, r[3 * k]? = some g → r[3 * k + 1]? = some h → r[3 * k + 2]? = some x →
        l[k]? = some { segment := g.toNat, occupied := h.getMsbD 0, number := 256 * (h.toNat % 4) + x.toNat })) ∧
  (∀ (g : Nat) (s : State),
    (s.occ g = .clear → leave g s = (s, [])) ∧
    (s.occ g = .unidentified ∨ s.occ g = .unknown → leave g s = (s.setOcc g .clear, [])) ∧
    (∀ k r, s.occ g = .occupied k → s.train? k = some r →
      let u := (leave g s).1
      (∀ m, m ≠ k → u.train? m = s.train? m) ∧
      (r.head = g → r.tail ≠ some g →
        (leave g s).2 = [.discrepancy g] ∧ u.train? k = some { r with state := .lost, stallBase := none, stallMark := none } ∧
        ∀ y, u.occ y = if y = g then .clear else if r.tail = some y ∧ s.seg? y ≠ none then .unidentified else s.occ y) ∧
      (r.head ≠ g →
        (leave g s).2 = (r.stallMark.map TrackAct.closeStall).toList ∧
        u.train? k = some { r with tail := none, movement := s.lmc.count, stallMark := none,
                                   stallBase := if s.stallRuns r then some s.lmc.count else none } ∧
        ∀ y, u.occ y = if y = g then .clear else s.occ y))) ∧
  (∀ (change : State → Tables) (e : Option HeadEntry) (s : State),
    trackStep change e s = reportChanges s (change s).1 e (forEach (change s).2 actOn (change s).1)) ∧
  (∀ (g : Nat) (s : State),
    actOn (.discrepancy g) s = raised .trackDiscrepancy 2 (.segment g) .tracker s ∧
    (s.openIncident? .trainStopped (.segment g) = none → actOn (.closeStall g) s = s) ∧
    (∀ i, s.openIncident? .trainStopped (.segment g) = some i →
      actOn (.closeStall g) s = if i.phase = .contained then s else (closeIncident i.id .automatic s).2))

/-- POLL_POINT and SILENCE_EXPIRY: at its poll point a unit that is not STALE has a POLL owed to it, once; at its silence expiry a STALE
unit's timer is set again and a POLL is owed, and another goes STALE; both also act after those counts (log 2). Before them, or without a
record, the commands change nothing (log 1). A POLL is owed unless one to the unit is queued. What going STALE leaves: the record STALE
with no failures, no sequence and a fresh timer, a POLL owed or queued, and the UNIT flag set; the segments that a track unit covers
UNKNOWN and the trains with their head there LOST; the breakers of a power unit UNKNOWN; the zone of a station unit UNREACHABLE; and, for
a unit with the silence-incident flag, an open FIELD_SILENCE incident at it or the raise recorded as dropped, for another none that was
not open. In order: the record, the survey readiness (log 76), the POLL, the frames, the unit's kind, the raise and the notice. Each frame
for the unit but a POLL ends FAILED and leaves the queue, one that is on the line being marked to end so. For a power unit each command of
it in the queue, each OPEN owed at its breakers and each move of them ends FAILED_DELIVERY, its end kept for its origin (a command that
starts meanwhile: log 71); its breakers become UNKNOWN without position and voltage, and its budgets and sections are assessed anew. -/
def Obligations.UnitTimersExpire : Prop :=
  (∀ (a : Nat) (s : State),
    (s.unitRec? a = none → exec (.pollPoint a) s = .next s ∧ exec (.silenceExpiry a) s = .next s) ∧
    (∀ u, s.unitRec? a = some u →
      let t := s.modUnit a fun r => { r with pollPassed := true }
      (u.pollPassed = true ∨ s.lmc.count < u.pollPoint → exec (.pollPoint a) s = .next s) ∧
      (u.pollPassed = false → u.pollPoint ≤ s.lmc.count →
        (u.state = .stale → exec (.pollPoint a) s = .next t.conclude) ∧
        (u.state ≠ .stale → exec (.pollPoint a) s = .next (wantPoll a t).conclude)) ∧
      (s.lmc.count < u.silenceExpiry → exec (.silenceExpiry a) s = .next s) ∧
      (u.silenceExpiry ≤ s.lmc.count →
        (u.state = .stale → exec (.silenceExpiry a) s =
          .next (wantPoll a (s.modUnit a fun r => r.restartTimer s.now (s.silenceLimit a))).conclude) ∧
        (u.state ≠ .stale → exec (.silenceExpiry a) s = .next (goStale a (.unit a) s).conclude))) ∧
    ((∃ f ∈ s.wlc.outQueue, f.dest = a ∧ f.body = .poll) → wantPoll a s = s) ∧
    ((∀ f ∈ s.wlc.outQueue, f.dest = a → f.body ≠ .poll) → wantPoll a s = s.modUnit a fun r => { r with pollPending := true }) ∧
    (∀ (o : RaiseOrigin) (u : UnitRec), Keyed s → s.unitRec? a = some u →
      let t := goStale a o s
      let limit := s.silenceLimit a
      let silence := fun i : Incident => i.cls = .fieldSilence ∧ i.location = .unit a ∧ i.phase ≠ .closed
      t.clp.flags.get .unit = true ∧
      (∃ v, t.unitRec? a = some v ∧ v = { u with state := .stale, failures := 0, sequence := none, silenceExpiry := s.lmc.count + limit,
                                                 pollPoint := s.lmc.count + limit / 2, pollPassed := false,
                                                 pollPending := v.pollPending } ∧
        (v.pollPending = true ∨ ∃ f ∈ t.wlc.outQueue, f.dest = a ∧ f.body = .poll)) ∧
      (u.kind = .track → (∀ g ∈ s.desc.unitSegments a, t.occ g = .unknown) ∧
        ∀ r ∈ s.trk.trains, r.head ∈ s.desc.unitSegments a → (t.train? r.number).map (·.state) = some .lost) ∧
      (u.kind = .power → ∀ b ∈ s.desc.unitBreakers a, s.brk? b ≠ none → t.brkState? b = some .unknown) ∧
      (u.kind = .station → ∀ st, s.desc.unitStation? a = some st → s.zone? st ≠ none → t.zoneState? st = some .unreachable) ∧
      ((∃ d, s.desc.unit? a = some d ∧ d.silenceIncident = true) →
        (∃ i ∈ t.inm.incidents, silence i) ∨
          t.inm.lastDrop = some { cls := .fieldSilence, location := .unit a, time := s.lmc.lineTime }) ∧
      ((∀ d, s.desc.unit? a = some d → d.silenceIncident = false) → (∃ i ∈ t.inm.incidents, silence i) →
        ∃ i ∈ s.inm.incidents, silence i))) ∧
  (∀ (a : Nat) (o : RaiseOrigin) (u : UnitRec) (s : State), s.unitRec? a = some u →
    let t := wantPoll a (s.modUnit a fun r =>
      { r.restartTimer s.now (s.silenceLimit a) with state := .stale, failures := 0, sequence := none }).updateReadiness
    let v := dropFrames a t
    let w := match u.kind with
      | .track => staleTrackUnit a v
      | .power => stalePowerUnit a v
      | .station => (s.desc.unitStation? a).elim v fun st => staleZone st v
    goStale a o s =
      (if (s.desc.unit? a).map (·.silenceIncident) = some true then raised .fieldSilence 2 (.unit a) o w else w).unitNotice a) ∧
  (∀ (a : Nat) (s : State),
    let goes := fun f : OutFrame => f.dest == a && f.body != .poll && !f.onLine
    dropFrames a s = forEach (s.wlc.outQueue.filter goes) (fun f t => reportFrame f .failed t) { s with
      wlc.outQueue := (s.wlc.outQueue.filter fun f => !goes f).map fun f =>
        if f.dest = a ∧ f.body ≠ .poll then { f with removing := true } else f }) ∧
  (∀ (a : Nat) (s : State),
    let breakers := s.desc.unitBreakers a
    let sections := s.desc.unitSections a
    let t := takeReports (forEach breakers loseBreaker (failCommands a s))
    stalePowerUnit a s = forEach sections (reassess [])
      (recomputeBudgets sections (forEach breakers (fun b u => failWaiting (u.waitingOn b) b .failedDelivery u) t))) ∧
  (∀ (a : Nat) (s : State),
    let t := failCommands a s
    let ended := fun (b : Nat) (act : Action) (o : CmdOrigin) => ∃ r ∈ t.tpc.reports, r =
      { breaker := b, action := act, origin := o, outcome := .failedDelivery, waiting := s.waitingOn b : Report }
    (∀ r ∈ s.tpc.reports, r ∈ t.tpc.reports) ∧
    t.tpc.queue = s.tpc.queue.filter (fun d => !(s.tpc.queue.any fun c => c.unit == a && c.same d)) ∧
    (∀ c ∈ s.tpc.queue, c.unit = a → ended c.breaker c.action c.origin) ∧
    (∀ b ∈ s.desc.unitBreakers a, ((t.brk? b).bind (·.owed)) = none ∧
      ∀ o, (s.brk? b).bind (·.owed) = some o → ended b .opening o ∧ (t.brk? b).bind (·.outcome) = some .failedDelivery)) ∧
  (∀ (b : Nat) (r : BrkRec) (s : State), s.brk? b = some r →
    (∃ q, (loseBreaker b s).brk? b = some q ∧ q.state = .unknown ∧ q.position = none ∧ q.voltage = none ∧ q.owed = r.owed) ∧
    (∀ target e o, r.state = .moving target e o → ((loseBreaker b s).brk? b).bind (·.outcome) = some .failedDelivery ∧
      ∃ p ∈ (loseBreaker b s).tpc.reports, p.breaker = b ∧ p.action = (if target = .opened then .opening else .closing) ∧ p.origin = o ∧
        p.outcome = .failedDelivery))

/-! ### Trains -/

/-- STALL_LIMIT_SET and STALL_EXPIRY: a limit of 30 to 600 becomes the stall limit, the timers that have by it passed expire at once, in
the same step and in ascending train number (log 36), and the reply gives it. A timer expires when the count has come to its base plus the
limit, or passed it (log 2): the timer stops, and a train without a stall mark takes one at its head, with TRAIN_STOPPED at severity 2.
Early, or without a record, STALL_EXPIRY changes nothing (log 1). A timer runs for a train that is IN_SERVICE or POSITIONING, with its
head on no platform, in a passenger mode. A timer is due, and expires, for a lowered limit just as by STALL_EXPIRY. -/
def Obligations.StallTimers : Prop :=
  (∀ (tag : Nat) (limit : Option Nat) (s : State), due (.stallLimitSet tag limit) s →
    (¬ given 30 600 limit → badlyFilled (.stallLimitSet tag limit) tag "limit" s) ∧
    (∀ n, limit = some n → 30 ≤ n → n ≤ 600 →
      let t := { s with trk.stallLimit := n }
      ∃ f, accepted (.stallLimitSet tag limit) tag s
        (forEach ((t.trk.trains.filter (stallDue t)).map (·.number)) stallExpire t).conclude f ∧ shows (vNum n) f)) ∧
  (∀ (n : Nat) (s : State),
    (s.train? n = none → exec (.stallExpiry n) s = .next s) ∧
    (∀ t, s.train? n = some t →
      let u := s.modTrain n fun r => { r with stallBase := none }
      (t.stallBase = none → exec (.stallExpiry n) s = .next s) ∧
      (∀ b, t.stallBase = some b →
        (s.lmc.count < b + s.trk.stallLimit → exec (.stallExpiry n) s = .next s) ∧
        (b + s.trk.stallLimit ≤ s.lmc.count → t.stallMark ≠ none → exec (.stallExpiry n) s = .next u.conclude) ∧
        (b + s.trk.stallLimit ≤ s.lmc.count → t.stallMark = none → exec (.stallExpiry n) s =
          .next (raised .trainStopped 2 (.segment t.head) .tracker
            (u.modTrain n fun r => { r with stallMark := some r.head })).conclude)))) ∧
  (∀ (t : Train) (s : State), s.stallRuns t = true ↔
      (t.state = .inService ∨ t.state = .positioning) ∧ s.desc.platformOf? t.head = none ∧ isPassenger s.lmc.mode = true) ∧
  (∀ (n : Nat) (s : State),
    (∀ t : Train, stallDue s t = true ↔ ∃ b, t.stallBase = some b ∧ b + s.trk.stallLimit ≤ s.lmc.count) ∧
    (s.train? n = none → stallExpire n s = s) ∧
    (∀ t, s.train? n = some t →
      let u := s.modTrain n fun r => { r with stallBase := none }
      (t.stallMark ≠ none → stallExpire n s = u) ∧
      (t.stallMark = none → stallExpire n s = raised .trainStopped 2 (.segment t.head) .tracker
        (u.modTrain n fun r => { r with stallMark := some r.head }))))

/-- TRAIN_SET_NUMBER and TRAIN_WITHDRAW. A number is set on a segment that is OCCUPIED_UNIDENTIFIED, with a tail likewise that the segment
follows, for a number without a record while the table has room, or for a LOST train; the train is placed and a TRAIN notice raised. A
STABLED or LOST train is withdrawn. The refusals come in the order of the checks. What each leaves: a train that is placed has the head
and the tail given, is not LOST, is STABLED on a DEPOT segment, and OCCUPIES its segments; of one that is withdrawn the record and the
grant are gone, its segments are OCCUPIED_UNIDENTIFIED and the others as before, and its trip is CANCELLED by the operator, or PENDING
again if it had not started. How a train is placed, on the tables: a segment of the new position that another train occupies is taken from
it, the head before the tail (log 31), with a TRACK_DISCREPANCY, and that train is LOST when it was its head; a segment left behind is
OCCUPIED_UNIDENTIFIED, with a discrepancy in a move; the train has its position, state, movement and stall timer, a stall mark is cleared
and its incident's closure asked for, and a relocation raises at the new head; no other train and no other segment changes. A segment is
made OCCUPIED_UNIDENTIFIED in the same way. Every placement ends with its raises and closures and then the reports: of each train whose
state changed, with a TRAIN notice, the end of the call of a LOST or STABLED one and the displays; of the head's entry; of each segment
whose occupancy changed, CLEAR evaluating the calls before it and not CLEAR revoking the authorities of its platforms; and the isolations
in CLEARING are tested. None of it moves a train or changes an occupancy again. A recovery counts as an entry of the head wherever it was
(log 31), and a move into a DEPOT segment closes a stall as any move does (log 48). -/
def Obligations.TrainsNamedAndWithdrawn : Prop :=
  (∀ (tag : Nat) (g n t : Option Nat) (s : State), due (.trainSetNumber tag g n t) s →
    (¬ given 0 127 g → badlyFilled (.trainSetNumber tag g n t) tag "segment" s) ∧
    (given 0 127 g → ¬ fits 0 127 t → badlyFilled (.trainSetNumber tag g n t) tag "tail" s) ∧
    (given 0 127 g → fits 0 127 t → ¬ given 1 999 n → badlyFilled (.trainSetNumber tag g n t) tag "number" s) ∧
    (∀ h k, g = some h → n = some k → h ≤ 127 → 1 ≤ k → k ≤ 999 → fits 0 127 t →
      ((s.desc.segment? h = none ∨ ∃ b, t = some b ∧ s.desc.segment? b = none) →
        refusedWith (.trainSetNumber tag g n t) tag .notFound [] s) ∧
      (s.desc.segment? h ≠ none → (∀ b, t = some b → s.desc.segment? b ≠ none) →
        (s.occ h ≠ .unidentified ∨ (∃ b, t = some b ∧ (s.occ b ≠ .unidentified ∨ s.desc.follows h b = false)) →
          refusedFor (.trainSetNumber tag g n t) tag .state s) ∧
        (s.occ h = .unidentified → (∀ b, t = some b → s.occ b = .unidentified ∧ s.desc.follows h b = true) →
          (s.train? k = none → 48 ≤ s.trk.trains.length → refusedWith (.trainSetNumber tag g n t) tag .full [] s) ∧
          (s.train? k = none → s.trk.trains.length < 48 → ∃ f, accepted (.trainSetNumber tag g n t) tag s
            ((place k h t .creation s).trainNotice k).conclude f) ∧
          (∀ r, s.train? k = some r →
            (r.state ≠ .lost → refusedFor (.trainSetNumber tag g n t) tag .state s) ∧
            (r.state = .lost → ∃ f, accepted (.trainSetNumber tag g n t) tag s
              ((place k h t .recovery s).trainNotice k).conclude f)))))) ∧
  (∀ (tag : Nat) (n : Option Nat) (s : State), due (.trainWithdraw tag n) s →
    (¬ given 1 999 n → badlyFilled (.trainWithdraw tag n) tag "number" s) ∧
    (∀ k, n = some k → 1 ≤ k → k ≤ 999 →
      (s.train? k = none → refusedWith (.trainWithdraw tag n) tag .notFound [] s) ∧
      (∀ t, s.train? k = some t →
        (t.state ≠ .stabled → t.state ≠ .lost → refusedWith (.trainWithdraw tag n) tag .state [] s) ∧
        (t.state = .stabled ∨ t.state = .lost →
          ∃ f, accepted (.trainWithdraw tag n) tag s (withdrawTrain t s).conclude f)))) ∧
  (∀ (n h : Nat) (tail : Option Nat) (kind : Placing) (s : State), (kind = .creation ↔ s.train? n = none) →
    let u := place n h tail kind s
    ∃ r, u.train? n = some r ∧ r.head = h ∧ r.tail = tail ∧ r.state ≠ .lost ∧
      ((∃ g, s.desc.segment? h = some g ∧ g.track = .depot) → r.state = .stabled) ∧
      ∀ g ∈ h :: tail.toList, s.seg? g ≠ none → u.occ g = .occupied n) ∧
  (∀ (n : Nat) (t : Train) (s : State), Keyed s → s.train? n = some t →
    let u := withdrawTrain t s
    u.train? n = none ∧ u.grant? n = none ∧ (∀ m, m ≠ n → (u.train? m).map (·.head) = (s.train? m).map (·.head)) ∧
    (∀ g, u.occ g = if s.occ g = .occupied n then .unidentified else s.occ g) ∧
    ∀ k r, t.trip = some k → s.tripState? k = some r → u.tripState? k = some
      { r with status := if r.actualStart.isSome then .cancelled else .pending, train := none,
               cause := if r.actualStart.isSome then some .operator else none }) ∧
  (∀ (g : Nat) (o : Occupancy) (s : State) (y : Nat), (s.setOcc g o).occ y = if y = g ∧ s.seg? g ≠ none then o else s.occ y) ∧
  (∀ (mine : Option Nat) (position : List Nat) (g : Nat) (s : State),
    ((∀ k, s.occ g = .occupied k → mine = some k) → takeSegment mine position g s = (s, [])) ∧
    (∀ k r, s.occ g = .occupied k → mine ≠ some k → s.train? k = some r →
      let u := (takeSegment mine position g s).1
      (takeSegment mine position g s).2 = [.discrepancy g] ∧ (∀ m, m ≠ k → u.train? m = s.train? m) ∧
      u.train? k = some { r with
        tail := if r.tail = some g then none else r.tail, state := if r.head = g then .lost else r.state,
        stallBase := if r.head = g then none else r.stallBase, stallMark := if r.head = g then none else r.stallMark } ∧
      ∀ y, u.occ y = if r.head = g ∧ r.tail = some y ∧ y ∉ position ∧ s.seg? y ≠ none then .unidentified else s.occ y)) ∧
  (∀ (n h : Nat) (tail : Option Nat) (kind : Placing) (s : State), PositionLaw s → (kind = .creation ↔ s.train? n = none) →
    let position := h :: tail.toList
    let u := placeTables n h tail kind s
    let r := (s.train? n).getD (newTrain s.lmc.count n h)
    let left := if kind = .creation then [] else (r.head :: r.tail.toList).filter fun g => !position.contains g && s.occ g == .occupied n
    let moves := r.head ≠ h ∨ kind = .creation ∨ kind = .recovery
    let depot := (s.desc.segment? h).any (·.track == .depot)
    let state := if depot then .stabled
      else if r.state = .stabled ∨ r.state = .lost then (if r.trip = none then .positioning else .inService) else r.state
    let held := fun m g => ∃ t, s.train? m = some t ∧ t.state ≠ .lost ∧ t.head ∈ position ∧ t.tail = some g
    u.2 = ((position.filter fun g => match s.occ g with | .occupied m => m != n | _ => false).map .discrepancy ++
        (if kind = .move then left.map .discrepancy else []) ++ (if moves then (r.stallMark.map .closeStall).toList else []) ++
        (if kind = .relocation then [.discrepancy h] else []) : List TrackAct) ∧
    u.1.train? n = some { r with
      head := h, tail := tail, state := state, movement := if moves then s.lmc.count else r.movement,
      stallMark := if moves then none else r.stallMark,
      stallBase := if moves then (if s.stallRuns { r with head := h, state := state } then some s.lmc.count else none) else r.stallBase } ∧
    (∀ m t, m ≠ n → s.train? m = some t → u.1.train? m = some (if t.state = .lost then t else { t with
      tail := t.tail.filter fun g => !position.contains g, state := if t.head ∈ position then .lost else t.state,
      stallBase := if t.head ∈ position then none else t.stallBase, stallMark := if t.head ∈ position then none else t.stallMark })) ∧
    (∀ g ∈ position, s.seg? g ≠ none → u.1.occ g = .occupied n) ∧
    (∀ g, g ∉ position → s.occ g = .occupied n ∨ (∃ m, m ≠ n ∧ held m g) → u.1.occ g = .unidentified) ∧
    (∀ g, g ∉ position → s.occ g ≠ .occupied n → (∀ m, m ≠ n → ¬ held m g) → u.1.occ g = s.occ g)) ∧
  (∀ (l : List Nat) (g : Nat) (s : State),
    (∀ h, let v := takeSegment none l h s
      makeUnidentified l h s = (v.1.setOcc h .unidentified, v.2)) ∧
    unidentify l g s =
      trackStep (fun t => ((eachTables l (makeUnidentified l) t).1, (eachTables l (makeUnidentified l) t).2 ++ [.discrepancy g])) none s) ∧
  (∀ (n h : Nat) (tail : Option Nat) (kind : Placing) (s : State),
    let old := s.train? n
    place n h tail kind s = trackStep (placeTables n h tail kind)
      (if old.map (·.head) ≠ some h ∨ kind = .creation ∨ kind = .recovery then
        some { train := n, head := h, old := if kind = .move then old.map (·.head) else none,
               stalled := (old.bind (·.stallMark)).isSome }
      else none) s) ∧
  (∀ (change : State → Tables) (e : Option HeadEntry) (s : State),
    let t := (change s).1
    let u := trackStep change e s
    let place := fun r : Train => (r.number, r.head, r.tail, r.movement)
    u.trk.segs = t.trk.segs ∧ u.trk.trains.map place = t.trk.trains.map place) ∧
  (∀ (before after : State) (e : Option HeadEntry) (s : State),
    let t := forEach (changedTrains before after) reportState s
    let u := if changedTrains before after = [] then t else t.displaysAll
    let v := e.elim u fun h => reportEntry h u
    reportChanges before after e s = testClearing (forEach (changedSegments before after) reportOccupancy v) ∧
    (∀ n, n ∈ changedTrains before after ↔
      ∃ r ∈ after.trk.trains, r.number = n ∧ (before.train? n).map (·.state) ≠ some r.state) ∧
    (∀ q, q ∈ changedSegments before after ↔
      ∃ x ∈ after.trk.segs, q = (x.index, before.occ x.index, x.occ) ∧ before.occ x.index ≠ x.occ)) ∧
  (∀ (n : Nat) (s : State),
    let t := s.trainNotice n
    (∀ r, t.train? n = some r →
      reportState n s = if r.state = .lost ∨ r.state = .stabled then abortCall n t else t) ∧
    ((s.train? n).bind (·.call) = none → abortCall n s = s) ∧
    (∀ c, (s.train? n).bind (·.call) = some c → abortCall n s = revoke n (s.modTrain n fun r => { r with call := none }))) ∧
  (∀ (e : HeadEntry) (s : State),
    let t := entryPower e (entryService e s)
    reportEntry e s = ((if e.old = none then t else arrivalEntries e.train e.head t).displaysAll)) ∧
  (∀ (g : Nat) (was now : Occupancy) (s : State),
    (now = .clear → reportOccupancy (g, was, now) s = evaluateMany (s.waitingTrains.filter fun n =>
      ((s.train? n).bind (·.call)).any fun c => s.desc.nextSegment? c.platform == some g) s) ∧
    (was = .clear → now ≠ .clear → reportOccupancy (g, was, now) s =
      forEach (s.desc.platforms.filter fun p => s.desc.nextSegment? p == some g) (fun p t => forEach (t.authorisedAt p) revoke t) s) ∧
    (was ≠ .clear → now ≠ .clear → reportOccupancy (g, was, now) s = s))

/-- R56: TRAIN_SET_DRAW in every mode, with its refusals: the class given becomes the train's draw class and a TRAIN notice is raised;
the grants stay as they are. The next grant request of a call is made with the class the record then has. -/
def Obligations.DrawClassSet : Prop :=
  (∀ (tag : Nat) (n c : Option Nat) (s : State), due (.trainSetDraw tag n c) s →
    (¬ given 1 999 n → badlyFilled (.trainSetDraw tag n c) tag "number" s) ∧
    (given 1 999 n → ¬ given 1 3 c → badlyFilled (.trainSetDraw tag n c) tag "draw_class" s) ∧
    (∀ k d, n = some k → c = some d → 1 ≤ k → k ≤ 999 → 1 ≤ d → d ≤ 3 →
      (s.train? k = none → refusedWith (.trainSetDraw tag n c) tag .notFound [] s) ∧
      (∀ r, s.train? k = some r → ∃ t l f, accepted (.trainSetDraw tag n c) tag s t f ∧
        t = (s.modTrain k fun r => { r with draw := d }).notice .train l ∧ t.train? k = some { r with draw := d } ∧
        t.tpc.grants = s.tpc.grants))) ∧
  (∀ (n x : Nat) (r : Train) (c : Call) (s : State), s.train? n = some r → r.call = some c → evaluationChecks s r c = some x →
    ((requestGrant n x r.draw s.regulation.window s).1 = true →
      evaluateCall n s = issueAuthority n x c (requestGrant n x r.draw s.regulation.window s).2) ∧
    ((requestGrant n x r.draw s.regulation.window s).1 = false → evaluateCall n s =
      (.noGrant x, (requestGrant n x r.draw s.regulation.window s).2.modCall n fun d => { d with phase := .waiting }))) ∧
  (∀ (n x draw window : Nat) (s : State), (requestGrant n x draw window s).1 = true →
    ∃ g ∈ (requestGrant n x draw window s).2.tpc.grants, g.train = n ∧ g.sec = x ∧ g.tokens = draw)

/-! ### Slots and the line store -/

/-- TT_OPEN and TT_ABANDON in every mode, with their refusals in order: TT_OPEN discards the slot's content and the staging
buffer, and the slot is WRITING with the name code and no trips; TT_ABANDON makes a WRITING slot EMPTY. A STORE notice is raised. The
check value 0, and what else an EMPTY slot holds after TT_ABANDON, are the model's choice (log 40). -/
def Obligations.SlotsOpenedAndAbandoned : Prop :=
  (∀ (tag : Nat) (i n : Option Nat) (s : State), due (.ttOpen tag i n) s → s.lst.slots.length = 4 →
    (¬ given 0 3 i → badlyFilled (.ttOpen tag i n) tag "slot" s) ∧
    (given 0 3 i → ¬ given 0 65535 n → badlyFilled (.ttOpen tag i n) tag "name_code" s) ∧
    (∀ j k x, i = some j → j ≤ 3 → n = some k → k ≤ 65535 → s.lst.slots[j]? = some x →
      let other := ∃ m y, m ≠ j ∧ s.lst.slots[m]? = some y ∧ (y.state = .writing ∨ y.state = .committing)
      (s.lst.active = some j ∨ s.lst.scheduled = some j → refusedWith (.ttOpen tag i n) tag .state [] s) ∧
      (s.lst.active ≠ some j → s.lst.scheduled ≠ some j →
        (other ∨ x.state = .committing → refusedWith (.ttOpen tag i n) tag .busy [] s) ∧
        (¬ other → x.state ≠ .committing → ∃ l, accepted (.ttOpen tag i n) tag s
          (State.notice .store l
            { s with lst.slots := s.lst.slots.set j { Slot.empty with state := .writing, name := k }, lst.buffer := [] })
          [⟨"restarted", vYes (x.state == .writing)⟩])))) ∧
  (∀ (tag : Nat) (i : Option Nat) (s : State), due (.ttAbandon tag i) s → s.lst.slots.length = 4 →
    (¬ given 0 3 i → badlyFilled (.ttAbandon tag i) tag "slot" s) ∧
    (∀ j x, i = some j → j ≤ 3 → s.lst.slots[j]? = some x →
      (x.state ≠ .writing → refusedWith (.ttAbandon tag i) tag .state [] s) ∧
      (x.state = .writing → ∃ l, accepted (.ttAbandon tag i) tag s
        (State.notice .store l { s with lst.slots := s.lst.slots.set j Slot.empty, lst.buffer := [] }) []))) ∧
  (Slot.empty.tripCount = 0 ∧ Slot.empty.pointCount = 0 ∧ Slot.empty.content = [] ∧ Slot.empty.state = .empty)

/-- TT_ADD_TRIP and TT_CLOSE: a trip that passes the checks is appended to the staging buffer of the WRITING slot, whose counts are
those of the buffer; a WRITING slot whose buffer holds a trip becomes COMMITTING with its commit at the end of the other list. The
check value is whatever the free function gives (log 8). The refusals of TT_ADD_TRIP come in the order of its checks: the first field
absent or out of range; of the points, the first with a field out of range, the first without the shape of its place (log 26), the first
time that is not forward (the first planned departure where it is not the start time, log 52), the first without a record of its station
or platform, and the later of the first two in a row at one station (log 53); then a trip number in the buffer, a start before the last
trip's, and FULL. The names of the fields are of log 4. -/
def Obligations.TimetablesBuilt : Prop :=
  (∀ (tag : Nat) (f : TripFields) (s : State), due (.ttAddTrip tag f) s →
    (¬ given 0 3 f.slot → badlyFilled (.ttAddTrip tag f) tag "slot" s) ∧
    (∀ i x, f.slot = some i → i ≤ 3 → s.lst.slots[i]? = some x →
      (x.state ≠ .writing → refusedWith (.ttAddTrip tag f) tag .state [] s) ∧
      (∀ name, x.state = .writing → firstAtFault (tripTests f) = some name → badlyFilled (.ttAddTrip tag f) tag name s) ∧
      (x.state = .writing → ∀ r : TripRecord,
        f = { slot := some i, trip := some r.number, run := some r.run, direction := some r.direction, start := some r.start,
              points := some r.points } →
        1 ≤ r.number → r.number ≤ 9999 → 1 ≤ r.run → r.run ≤ 9999 → r.start ≤ 86399 → 1 ≤ r.points.length → r.points.length ≤ 32 →
        let inRange := fun pt : TimingPoint => firstAtFault (pointTests pt) = none
        let inShape := fun (k : Nat) (pt : TimingPoint) => shaped r.points.length k pt
        let starts := 2 ≤ r.points.length → ∀ pt, r.points.head? = some pt → pt.departure = some r.start
        let forwards := fun l : List (Nat × String × Nat) => l.Pairwise fun a b => s.offset a.2.2 ≤ s.offset b.2.2
        let known := fun pt : TimingPoint =>
          s.desc.station? pt.station ≠ none ∧ s.desc.platformExists (pointPlatform r.direction pt) = true
        let moves := fun l : List TimingPoint => ∀ p a b q, l = p ++ a :: b :: q → a.station ≠ b.station
        let refusedAt := fun (why : Reason) (name : String) (k : Nat) =>
          refusedWith (.ttAddTrip tag f) tag why [⟨"field", vWord name⟩, ⟨"index", vNum k⟩] s
        (∀ p pt q name, r.points = p ++ pt :: q → (∀ y ∈ p, inRange y) → firstAtFault (pointTests pt) = some name →
          refusedAt .badField name p.length) ∧
        ((∀ pt ∈ r.points, inRange pt) →
          (∀ p pt q, r.points = p ++ pt :: q → (∀ k y, p[k]? = some y → inShape k y) → ¬ inShape p.length pt →
            refusedAt .badField "timing_points" p.length) ∧
          ((∀ k pt, r.points[k]? = some pt → inShape k pt) →
            (¬ starts → refusedAt .badField "planned_departure" 0) ∧
            (∀ p a b q, starts → 2 ≤ r.points.length → tripTimes r = p ++ a :: b :: q → forwards (p ++ [a]) →
              s.offset b.2.2 < s.offset a.2.2 → refusedAt .badField b.2.1 b.1) ∧
            (starts → (2 ≤ r.points.length → forwards (tripTimes r)) →
              (∀ p pt q, r.points = p ++ pt :: q → (∀ y ∈ p, known y) → ¬ known pt →
                refusedAt .notFound "timing_points" p.length) ∧
              ((∀ pt ∈ r.points, known pt) →
                (∀ p a b q, r.points = p ++ a :: b :: q → moves (p ++ [a]) → a.station = b.station →
                  refusedAt .badField "timing_points" (p.length + 1)) ∧
                (moves r.points →
                  ((∃ q ∈ s.lst.buffer, q.number = r.number) →
                    refusedWith (.ttAddTrip tag f) tag .state [⟨"field", vWord "trip"⟩] s) ∧
                  ((∀ q ∈ s.lst.buffer, q.number ≠ r.number) →
                    (∀ q, s.lst.buffer.getLast? = some q → s.offset r.start < s.offset q.start →
                      badlyFilled (.ttAddTrip tag f) tag "start" s) ∧
                    ((∀ q, s.lst.buffer.getLast? = some q → s.offset q.start ≤ s.offset r.start) →
                      (1024 ≤ s.lst.buffer.length ∨ 16384 < pointCount s.lst.buffer + r.points.length →
                        refusedWith (.ttAddTrip tag f) tag .full [] s) ∧
                      (s.lst.buffer.length < 1024 → pointCount s.lst.buffer + r.points.length ≤ 16384 →
                        ∃ g, accepted (.ttAddTrip tag f) tag s
                          { s with lst.buffer := s.lst.buffer ++ [r],
                                   lst.slots := s.lst.slots.modify i fun y =>
                                     { y with tripCount := s.lst.buffer.length + 1,
                                              pointCount := pointCount (s.lst.buffer ++ [r]) } } g))))))))))) ∧
  (∀ (tag : Nat) (o : Option Nat) (s : State), due (.ttClose tag o) s →
    (¬ given 0 3 o → badlyFilled (.ttClose tag o) tag "slot" s) ∧
    (∀ i x, o = some i → i ≤ 3 → s.lst.slots[i]? = some x →
      (x.state ≠ .writing → refusedWith (.ttClose tag o) tag .state [] s) ∧
      (x.state = .writing → s.lst.buffer = [] → refusedFor (.ttClose tag o) tag .state s) ∧
      (x.state = .writing → s.lst.buffer ≠ [] → 4 ≤ s.lst.otherList.length →
        refusedWith (.ttClose tag o) tag .storeBusy [] s) ∧
      (x.state = .writing → s.lst.buffer ≠ [] → s.lst.otherList.length < 4 → ∃ l f, accepted (.ttClose tag o) tag s
        ((State.notice .store l (s.modSlot i fun y =>
            { y with state := .committing, check := Config.slotCheck s.lst.buffer, pages := commitPages s.lst.buffer,
                     pagesDone := 0 })).placeOtherOp (.commit i)).conclude f ∧ shows (vNum (commitPages s.lst.buffer)) f)))

/-- TT_ACTIVATE and TT_SCHEDULE: a VALID slot, or NONE, becomes the active slot, refused with MODE in TRAFFIC and REDUCED, and the trip
state table is rebuilt from it; or it becomes the scheduled slot, in every mode. The write of the indices is owed to the store. What the
rebuilding leaves: a train with a trip has it and its delay entry taken from it, and a train IN_SERVICE becomes POSITIONING; no other
train changes; each record of the slot has a state at its place, CANCELLED with cause LINE where a point's station or platform is not of
the description, LAPSED where its start is 300 s past or more and the clock is set, else PENDING. A change of the indices raises the STORE
notice (its words: log 69), computes the survey readiness (log 76) and has the write of the indices owed and placed as soon as it may be.
-/
def Obligations.IndicesTaken : Prop :=
  (∀ (tag : Nat) (o : Option OneOrNone) (s : State), due (.ttActivate tag o) s →
    (isPassenger s.lmc.mode = true → refusedWith (.ttActivate tag o) tag .mode [] s) ∧
    (isPassenger s.lmc.mode = false →
      (o = none → badlyFilled (.ttActivate tag o) tag "slot" s) ∧
      (∀ i, o = some (.one i) → 3 < i → badlyFilled (.ttActivate tag o) tag "slot" s) ∧
      (∀ i x, o = some (.one i) → i ≤ 3 → s.lst.slots[i]? = some x → x.state ≠ .valid →
        refusedWith (.ttActivate tag o) tag .state [] s) ∧
      (∀ i x, o = some (.one i) → i ≤ 3 → s.lst.slots[i]? = some x → x.state = .valid →
        ∃ f, accepted (.ttActivate tag o) tag s (rebuildTrips (s.setIndices (some i) s.lst.scheduled)).conclude f) ∧
      (o = some .none →
        ∃ f, accepted (.ttActivate tag o) tag s (rebuildTrips (s.setIndices none s.lst.scheduled)).conclude f))) ∧
  (∀ (tag : Nat) (o : Option OneOrNone) (s : State), due (.ttSchedule tag o) s →
    (o = none → badlyFilled (.ttSchedule tag o) tag "slot" s) ∧
    (∀ i, o = some (.one i) → 3 < i → badlyFilled (.ttSchedule tag o) tag "slot" s) ∧
    (∀ i x, o = some (.one i) → i ≤ 3 → s.lst.slots[i]? = some x → x.state ≠ .valid →
      refusedWith (.ttSchedule tag o) tag .state [] s) ∧
    (∀ i x, o = some (.one i) → i ≤ 3 → s.lst.slots[i]? = some x → x.state = .valid →
      ∃ f, accepted (.ttSchedule tag o) tag s (s.setIndices s.lst.active (some i)).conclude f) ∧
    (o = some .none → ∃ f, accepted (.ttSchedule tag o) tag s (s.setIndices s.lst.active none).conclude f)) ∧
  (∀ (a b : Option Nat) (s : State), (s.setIndices a b).lst.active = a ∧ (s.setIndices a b).lst.scheduled = b ∧
    ((s.setIndices a b).lst.indexDue = true ∨ .indexWrite ∈ (s.setIndices a b).lst.otherList ∨
      (s.setIndices a b).lst.inFlight = some (.indexWrite a b)) ∧
    (rebuildTrips s).srg.trips.map (·.number) = s.activeTrips.map (·.number)) ∧
  (∀ s : State, Keyed s →
    let t := rebuildTrips s
    let bearers := (s.trk.trains.filter (·.trip.isSome)).map (·.number)
    t = State.notice .trip [⟨"event", vWord "REBUILT"⟩]
      { forEach bearers (fun n u => loseTrip n (dropDelay n u)) s with srg.trips := t.srg.trips } ∧
    (∀ n x, s.train? n = some x →
      (x.trip = none → t.train? n = some x) ∧
      (x.trip ≠ none → t.train? n = some
        { x with trip := none, delayEntry := none, call := x.call.map fun c => { c with point := none },
                 state := if x.state = .inService then .positioning else x.state }))) ∧
  (∀ s : State,
    let absent := fun r : TripRecord => ∃ pt ∈ r.points, s.desc.station? pt.station = none ∨
      s.desc.platformExists (pointPlatform r.direction pt) = false
    let lapses := fun r : TripRecord => s.lmc.timeSet = true ∧ s.offset r.start + 300 ≤ s.nowOffset
    (rebuildTrips s).srg.trips.length = s.activeTrips.length ∧
    ∀ (i : Nat) (r : TripRecord), s.activeTrips[i]? = some r → ∃ (st : TripStatus) (c : Option CancelCause), (rebuildTrips s).srg.trips[i]? = some
        { number := r.number, run := r.run, direction := r.direction, start := r.start, status := st, train := none,
          actualStart := none, deviation := none, cause := c : TripState } ∧
      (absent r → st = .cancelled ∧ c = some .line) ∧ (¬ absent r → c = none ∧ st = if lapses r then .lapsed else .pending)) ∧
  (∀ (a b : Option Nat) (s : State),
    s.setIndices a b = ({ s with lst.active := a, lst.scheduled := b, lst.indexDue := true }.storeNotice "INDICES" vAbsent
      "CHANGED").updateReadiness.placeIndex.startOp)

/-- The store's completions. DONE leaves in the region what the operation wrote or erased: a permit's record, a template, a response, the
indices, a page of a commit, the last of which makes the slot VALID with the buffer as its content. FAILED leaves a template or a
response DAMAGED and empty, the indices or the slot DAMAGED, and a permit's record as it was. With another operation in flight, or
none, nothing changes (log 1). In the permit table a record written leaves the permit ISSUED now, and an ISOLATING section ISOLATED; one
not written leaves it ENDED with FAILED_STORE; a record erased leaves it ENDED with SURRENDERED; one not erased ISSUED again with the mark
of the failed erase. -/
def Obligations.StoreOperationsComplete : Prop :=
  (∀ (r : PermitRecord) (p : Permit) (s : State), s.permit? r.id = some p →
    (permitWritten r s).permit? r.id = some { p with state := .issued, store := .present, issued := some s.lmc.lineTime } ∧
    (s.sec? r.sec ≠ none → (permitWritten r s).secState? r.sec =
      if s.secState? r.sec = some .isolating then some .isolated else s.secState? r.sec) ∧
    (permitWriteFailed r s).permit? r.id =
      some { p with state := .ended, store := .absent, outcome := some .failedStore, ended := some s.lmc.lineTime }) ∧
  (∀ (n : Nat) (p : Permit) (s : State), s.tpc.permits.find? (·.place == n) = some p → s.permit? p.id = some p →
    (permitErased n s).permit? p.id =
      some { p with state := .ended, store := .absent, outcome := some .surrendered, ended := some s.lmc.lineTime } ∧
    (permitEraseFailed n s).permit? p.id = some { p with state := .issued, store := .present, eraseFailed := true }) ∧
  ∀ s : State,
    let t := { s with lst.inFlight := none }
    (∀ o, (∀ r, s.lst.inFlight ≠ some (.permitWrite r)) → exec (.permitWriteCompletion o) s = .next s) ∧
    (∀ o, (∀ n, s.lst.inFlight ≠ some (.permitErase n)) → exec (.permitEraseCompletion o) s = .next s) ∧
    (∀ o, (∀ i e, s.lst.inFlight ≠ some (.templateWrite i e)) → exec (.templateWriteCompletion o) s = .next s) ∧
    (∀ o, (∀ c v e, s.lst.inFlight ≠ some (.responseWrite c v e)) → exec (.responseWriteCompletion o) s = .next s) ∧
    (∀ o, (∀ a b, s.lst.inFlight ≠ some (.indexWrite a b)) → exec (.indexWriteCompletion o) s = .next s) ∧
    (∀ o, (∀ i, s.lst.inFlight ≠ some (.commitPage i)) → exec (.commitPageCompletion o) s = .next s) ∧
    (∀ r, s.lst.inFlight = some (.permitWrite r) →
      exec (.permitWriteCompletion .done) s = .next (permitWritten r t).conclude ∧
      (permitWritten r t).lst.permits = insertBy (·.place) r s.lst.permits ∧
      exec (.permitWriteCompletion .failed) s = .next (permitWriteFailed r t).conclude ∧
      (permitWriteFailed r t).lst.permits = s.lst.permits) ∧
    (∀ n, s.lst.inFlight = some (.permitErase n) →
      exec (.permitEraseCompletion .done) s = .next (permitErased n t).conclude ∧
      (permitErased n t).lst.permits = s.lst.permits.filter (·.place != n) ∧
      exec (.permitEraseCompletion .failed) s = .next (permitEraseFailed n t).conclude ∧
      (permitEraseFailed n t).lst.permits = s.lst.permits) ∧
    (∀ i e, s.lst.inFlight = some (.templateWrite i e) →
      (∃ l, exec (.templateWriteCompletion .done) s = .next (State.notice .store l
        { t with lst.templates := putTemplate i e false s.lst.templates,
                 ans.templates := putTemplate i e false s.ans.templates }).conclude) ∧
      (∃ l, exec (.templateWriteCompletion .failed) s = .next (State.notice .store l
        { t with lst.templates := putTemplate i [] true s.lst.templates,
                 ans.templates := putTemplate i [] true s.ans.templates }).conclude)) ∧
    (∀ c v e, s.lst.inFlight = some (.responseWrite c v e) →
      (∃ l, exec (.responseWriteCompletion .done) s = .next (State.notice .store l
        { t with lst.responses := putResponse c v e false s.lst.responses,
                 inm.responses := putResponse c v e false s.inm.responses }).conclude) ∧
      (∃ l, exec (.responseWriteCompletion .failed) s = .next (State.notice .store l
        { t with lst.responses := putResponse c v Response.empty true s.lst.responses,
                 inm.responses := putResponse c v Response.empty true s.inm.responses }).conclude)) ∧
    (∀ a b, s.lst.inFlight = some (.indexWrite a b) →
      (∃ l, exec (.indexWriteCompletion .done) s = .next (State.notice .store l
        { t with lst.storedActive := a, lst.storedScheduled := b, lst.indicesDamaged := false }).conclude) ∧
      (∃ l, exec (.indexWriteCompletion .failed) s = .next (State.notice .store l
        { t with lst.indicesDamaged := true }).conclude)) ∧
    (∀ i x, s.lst.inFlight = some (.commitPage i) → s.lst.slots[i]? = some x →
      (x.pagesDone + 1 < x.pages → ∃ l, exec (.commitPageCompletion .done) s = .next (State.notice .store l
        (t.modSlot i fun y => { y with pagesDone := y.pagesDone + 1 })).conclude) ∧
      (x.pages ≤ x.pagesDone + 1 → ∃ l m, exec (.commitPageCompletion .done) s = .next (State.notice .store l
        (State.notice .store m
          { (t.modSlot i fun y => { y with state := .valid, content := s.lst.buffer, tripCount := s.lst.buffer.length,
                                           pointCount := pointCount s.lst.buffer, pages := 0, pagesDone := 0 }) with
            lst.otherList := s.lst.otherList.erase (.commit i), lst.buffer := [] })).conclude) ∧
      (∃ l m, exec (.commitPageCompletion .failed) s = .next (State.notice .store l
        (State.notice .store m
          { (t.modSlot i fun y => { y with state := .damaged, pages := 0, pagesDone := 0 }) with
            lst.otherList := s.lst.otherList.erase (.commit i), lst.buffer := [] })).conclude))

/-! ### Service regulation -/

/-- TRIP_ASSIGN and TRIP_CANCEL, with their refusals in order: a PENDING trip whose start is at most 600 s ahead is given to a POSITIONING
train at the trip's first platform; a PENDING or RUNNING trip becomes CANCELLED by the operator, and a RUNNING one's train loses it with
its delay entry. What each leaves: a trip that is given is RUNNING with the train, and the train IN_SERVICE with the trip, next timing
point 0 and deviation 0, its call at timing point 0 and ready after the minimum dwell of that point; a train that loses its trip has none,
is POSITIONING if it was IN_SERVICE, and its call has no timing point. A call's phase is kept by it (log 39), its target is the target
mark under the set the call began with (log 63), and a train that loses its trip keeps the next timing point and the deviation (log 23).
What an arrival leaves: for a train with a trip, the first point of its platform from the next one on is its next point, and the deviation
is that from a planned arrival, within 3,600 s either way; the last point makes the trip DONE and takes it from the train with its delay
entry, and its call has no timing point (log 57); a train without a trip has one assigned. A call begins DWELLING, with the mark ready
after the minimum dwell of its point, or 20 s, and the set in force, peak in TRAFFIC and off-peak otherwise. The target is the ready mark,
or later by the planned departure less the tolerance (SCHEDULE; none: log 16) or by the last departure and the headway (HEADWAY). In a
passenger mode a POSITIONING train at a terminal's platform is assigned the PENDING trip of earliest start there, at most 600 s ahead.
What a departure leaves: the authority departed or gone, the last departure mark, the deviation, the next point and, at point 0, the
actual start, the delay rule applied and the call gone; then, with neither an authority nor a promised departure, TRACK_DISCREPANCY
(whichever platform the authority names, and the record before the raise: log 33). What the entry of a head leaves: a sample is taken and
the platform left is departed from, or, without a move, the call is ended; the entry is marked, and a platform entered is arrived at. -/
def Obligations.TripsAssignedAndCancelled : Prop :=
  (∀ (tag : Nat) (n k : Option Nat) (s : State), due (.tripAssign tag n k) s →
    (isPassenger s.lmc.mode = false → refusedWith (.tripAssign tag n k) tag .mode [] s) ∧
    (isPassenger s.lmc.mode = true →
      (¬ given 1 999 n → badlyFilled (.tripAssign tag n k) tag "train" s) ∧
      (given 1 999 n → ¬ given 1 9999 k → badlyFilled (.tripAssign tag n k) tag "trip" s) ∧
      (∀ a b, n = some a → k = some b → 1 ≤ a → a ≤ 999 → 1 ≤ b → b ≤ 9999 →
        (s.train? a = none → refusedFor (.tripAssign tag n k) tag .notFound s) ∧
        (∀ t, s.train? a = some t →
          (s.tripState? b = none → refusedFor (.tripAssign tag n k) tag .notFound s) ∧
          (∀ r, s.tripState? b = some r →
            (t.state ≠ .positioning ∨ r.status ≠ .pending ∨ s.nowOffset + 600 < s.offset r.start →
              refusedFor (.tripAssign tag n k) tag .state s) ∧
            (∀ p, t.state = .positioning → r.status = .pending → s.offset r.start ≤ s.nowOffset + 600 →
              s.desc.platformOf? t.head = some p →
              (s.firstPlatform? b ≠ some p → refusedFor (.tripAssign tag n k) tag .state s) ∧
              (s.firstPlatform? b = some p →
                ∃ f, accepted (.tripAssign tag n k) tag s (giveTrip a b s).conclude f)) ∧
            (t.state = .positioning → r.status = .pending → s.offset r.start ≤ s.nowOffset + 600 →
              s.desc.platformOf? t.head = none → refusedFor (.tripAssign tag n k) tag .state s)))))) ∧
  (∀ (tag : Nat) (k : Option Nat) (s : State), due (.tripCancel tag k) s →
    (¬ given 1 9999 k → badlyFilled (.tripCancel tag k) tag "trip" s) ∧
    (∀ b, k = some b → 1 ≤ b → b ≤ 9999 →
      (s.tripState? b = none → refusedWith (.tripCancel tag k) tag .notFound [] s) ∧
      (∀ r, s.tripState? b = some r →
        let t := (s.modTrip b fun q => { q with status := .cancelled, train := none, cause := some .operator }).tripNotice b
        (r.status ≠ .pending → r.status ≠ .running → refusedWith (.tripCancel tag k) tag .state [] s) ∧
        (r.status = .pending ∨ r.status = .running →
          (r.train = none → ∃ f, accepted (.tripCancel tag k) tag s t.conclude f) ∧
          (∀ n, r.train = some n → ∃ f, accepted (.tripCancel tag k) tag s (dropDelay n (loseTrip n t)).conclude f))))) ∧
  (∀ (n k : Nat) (t : Train) (s : State), s.train? n = some t →
    let u := giveTrip n k s
    (∀ r, s.tripState? k = some r → u.tripState? k = some { r with status := .running, train := some n }) ∧
    (∃ q, u.train? n = some q ∧
      q = { t with state := .inService, trip := some k, nextPoint := 0, deviation := 0, call := q.call } ∧
      (t.call = none → q.call = none) ∧
      ∀ c, t.call = some c → ∃ d, q.call = some d ∧
        let pt := (s.tripPoints k).head?
        let ready := c.arrivalCount + (pt.map (·.dwell)).getD 20
        d = { c with point := some 0, ready := ready, target := targetMark s c pt ready }) ∧
    ∀ m, m ≠ n → u.train? m = s.train? m) ∧
  (∀ (n : Nat) (t : Train) (s : State), s.train? n = some t →
    (loseTrip n s).train? n = some { t with state := if t.state = .inService then .positioning else t.state, trip := none,
                                            call := t.call.map fun c => { c with point := none } } ∧
    ∀ m, m ≠ n → (loseTrip n s).train? m = s.train? m) ∧
  (∀ (n p : Nat) (t : Train) (s : State), s.train? n = some t →
    (t.trip = none → arrive n p s = assignTrip n (startCall n p none s)) ∧
    (∀ k, t.trip = some k →
      (s.pointFrom? k t.nextPoint p = none → arrive n p s = startCall n p none s) ∧
      (∀ j pt, s.pointFrom? k t.nextPoint p = some (j, pt) →
        let dev := pt.arrival.map s.deviationFrom
        let u := (s.modTrain n fun q => { q with nextPoint := j, deviation := dev.getD q.deviation }).modTrip k fun r =>
          { r with deviation := dev.or r.deviation }
        (j + 1 ≠ (s.tripPoints k).length → arrive n p s = startCall n p (some j) u) ∧
        (j + 1 = (s.tripPoints k).length →
          arrive n p s = assignTrip n (dropDelay n (loseTrip n (setTrip k .done none (startCall n p none u)))))))) ∧
  (∀ (k i p j : Nat) (pt : TimingPoint) (s : State),
    (s.pointFrom? k i p = some (j, pt) ↔ i ≤ j ∧ (s.tripPoints k)[j]? = some pt ∧ pointPlatform (s.tripDir k) pt = p ∧
      ∀ m q, i ≤ m → m < j → (s.tripPoints k)[m]? = some q → pointPlatform (s.tripDir k) q ≠ p) ∧
    (∀ a, s.deviationFrom a = max (-3600) (min 3600 ((s.nowOffset : Int) - s.offset a)))) ∧
  (∀ (s : State) (c : Call) (pt : TimingPoint) (ready : Nat),
    s.regulation = (if s.lmc.mode = .traffic then s.srg.peak else s.srg.offPeak) ∧
    targetMark s c none ready = ready ∧
    (c.regulation.method = .schedule → pt.departure = none → targetMark s c (some pt) ready = ready) ∧
    (∀ d, c.regulation.method = .schedule → pt.departure = some d → targetMark s c (some pt) ready =
      max ready ((c.arrivalCount : Int) + (s.offset d - c.regulation.tolerance - s.offset c.arrivalTime)).toNat) ∧
    (c.regulation.method = .headway → (s.plat? c.platform).bind (·.lastDeparture) = none →
      targetMark s c (some pt) ready = ready) ∧
    (∀ m, c.regulation.method = .headway → (s.plat? c.platform).bind (·.lastDeparture) = some m →
      targetMark s c (some pt) ready = max ready (m + c.regulation.headway))) ∧
  (∀ (n p : Nat) (point : Option Nat) (t : Train) (s : State), s.train? n = some t →
    let pt := point.bind fun j => t.trip.bind fun k => (s.tripPoints k)[j]?
    let ready := s.lmc.count + (pt.map (·.dwell)).getD 20
    let c : Call := { platform := p, arrivalCount := s.lmc.count, arrivalTime := s.lmc.lineTime, point := point, ready := ready,
                      target := 0, phase := .dwelling, retry := none, departWait := none, regulation := s.regulation }
    (startCall n p point s).train? n = some { t with call := some { c with target := targetMark s c pt ready } } ∧
    ∀ m, m ≠ n → (startCall n p point s).train? m = s.train? m) ∧
  (∀ (n : Nat) (t : Train) (s : State), s.train? n = some t →
    let offered := fun (p : Nat) (r : TripState) => r ∈ s.srg.trips ∧ r.status = .pending ∧ s.firstPlatform? r.number = some p ∧
      s.offset r.start ≤ s.nowOffset + 600
    let terminal := fun p : Nat => ∃ x, s.desc.station? (p / 2) = some x ∧ x.terminal = true
    (∀ p, s.desc.platformOf? t.head = some p → isPassenger s.lmc.mode = true → t.state = .positioning → terminal p →
      ((∀ r, ¬ offered p r) → assignTrip n s = s) ∧
      ((∃ r, offered p r) → ∃ r, offered p r ∧ (∀ q, offered p q → s.offset r.start ≤ s.offset q.start) ∧
        assignTrip n s = giveTrip n r.number s)) ∧
    (s.desc.platformOf? t.head = none ∨ isPassenger s.lmc.mode = false ∨ t.state ≠ .positioning ∨
      (∀ p, s.desc.platformOf? t.head = some p → ¬ terminal p) → assignTrip n s = s)) ∧
  (∀ (n p : Nat) (t : Train) (s : State), s.train? n = some t →
    let u := recordDeparture n p (departAuthority n s)
    (t.authority = none → departAuthority n s = s) ∧
    (∀ a, t.authority = some a → departAuthority n s =
      if a.state = .revoking then s.modAuthority n fun r => { r with departed := true }
      else s.modTrain n fun r => { r with authority := none }) ∧
    (s.desc.platformSegment? p = none → depart n p s = u) ∧
    (∀ g, s.desc.platformSegment? p = some g → depart n p s =
      if t.authority = none ∧ t.call.map (·.phase) ≠ some .departing then raised .trackDiscrepancy 2 (.segment g.index) .tracker u
      else u)) ∧
  (∀ (n p : Nat) (t : Train) (s : State), s.train? n = some t →
    let marked := s.modPlat p fun q => { q with lastDeparture := some s.lmc.count }
    let ends := fun u : State => (delayRule n u).modTrain n fun r => { r with call := none }
    ((∀ k c j, t.trip = some k → t.call = some c → c.platform = p → c.point ≠ some j) → recordDeparture n p s = ends marked) ∧
    (∀ k c j, t.trip = some k → t.call = some c → c.platform = p → c.point = some j →
      let dev := (((s.tripPoints k)[j]?).bind (·.departure)).map s.deviationFrom
      recordDeparture n p s = ends
        ((marked.modTrain n fun r => { r with deviation := dev.getD r.deviation, nextPoint := j + 1 }).modTrip k fun r =>
          { r with deviation := dev.or r.deviation, actualStart := if j = 0 then some s.lmc.lineTime else r.actualStart }))) ∧
  (∀ (e : HeadEntry) (s : State),
    let reaches := fun u : State => (u.desc.platformOf? e.head).elim u fun p => arrive e.train p u
    let entered := fun (u : State) (move : Bool) => u.modTrain e.train fun r => { r with entryMark := s.lmc.count, entryMove := move }
    (e.old = none → entryService e s = reaches (abortCall e.train (entered s false))) ∧
    (∀ o, e.old = some o →
      let t := entered (takeSample e.train o e.head e.stalled s) true
      entryService e s = reaches ((s.desc.platformOf? o).elim t fun p => depart e.train p t)))

/-- HOLD_TRAIN, RELEASE_TRAIN, HOLD_PLATFORM and RELEASE_PLATFORM, in every mode, with their refusals: OPERATOR is added to the hold set
of the train or platform, or taken from it, and a TRAIN or a TRIP notice is raised. What a change of a hold set leaves, whatever the
reason: the set with the reason added once, or without it; and after a reason that is new, no authority of that train, or for that
platform, is ISSUED. A reason that is not there changes nothing by its removal; the removal of the last one evaluates the call of the
train if it is WAITING, or the WAITING calls at the platform, in the order of R83; with a reason left nothing is evaluated. An evaluation
whose authority finds no room in the outbound queue gives its grant back, and the WAITING calls into that section are evaluated, but for
those that are to be tried again 1 s on (log 12). -/
def Obligations.HoldsOfTheHost : Prop :=
  (∀ (tag : Nat) (o : Option Nat) (s : State),
    (¬ given 1 999 o →
      (due (.holdTrain tag o) s → badlyFilled (.holdTrain tag o) tag "train" s) ∧
      (due (.releaseTrain tag o) s → badlyFilled (.releaseTrain tag o) tag "train" s)) ∧
    (∀ n, o = some n → 1 ≤ n → n ≤ 999 →
      (s.train? n = none →
        (due (.holdTrain tag o) s → refusedWith (.holdTrain tag o) tag .notFound [] s) ∧
        (due (.releaseTrain tag o) s → refusedWith (.releaseTrain tag o) tag .notFound [] s)) ∧
      (s.train? n ≠ none →
        (due (.holdTrain tag o) s → ∃ f, accepted (.holdTrain tag o) tag s
          ((addTrainHold n .operator s).trainNotice n).conclude f) ∧
        (due (.releaseTrain tag o) s → ∃ f, accepted (.releaseTrain tag o) tag s
          ((removeTrainHold n .operator s).trainNotice n).conclude f)))) ∧
  (∀ (tag : Nat) (o : Option Nat) (s : State),
    (¬ given 0 63 o →
      (due (.holdPlatform tag o) s → badlyFilled (.holdPlatform tag o) tag "platform" s) ∧
      (due (.releasePlatform tag o) s → badlyFilled (.releasePlatform tag o) tag "platform" s)) ∧
    (∀ p, o = some p → p ≤ 63 →
      (s.plat? p = none →
        (due (.holdPlatform tag o) s → refusedWith (.holdPlatform tag o) tag .notFound [] s) ∧
        (due (.releasePlatform tag o) s → refusedWith (.releasePlatform tag o) tag .notFound [] s)) ∧
      (s.plat? p ≠ none →
        (due (.holdPlatform tag o) s → ∃ l f, accepted (.holdPlatform tag o) tag s
          ((addPlatformHold p .operator s).notice .trip l).conclude f) ∧
        (due (.releasePlatform tag o) s → ∃ l f, accepted (.releasePlatform tag o) tag s
          ((removePlatformHold p .operator s).notice .trip l).conclude f)))) ∧
  (∀ (n : Nat) (r : HoldReason) (t : Train) (s : State), s.train? n = some t →
    (∃ q, (addTrainHold n r s).train? n = some q ∧ q.holds = (if r ∈ t.holds then t.holds else t.holds ++ [r]) ∧
      (r ∉ t.holds → ∀ a, q.authority = some a → a.state ≠ .issued)) ∧
    (∃ q, (removeTrainHold n r s).train? n = some q ∧ q.holds = t.holds.filter (· != r))) ∧
  (∀ (p : Nat) (r : HoldReason) (q : PlatRec) (s : State), s.plat? p = some q →
    ((addPlatformHold p r s).platHolds p = (if r ∈ q.holds then q.holds else q.holds ++ [r]) ∧
      (r ∉ q.holds → ∀ n t a, (addPlatformHold p r s).train? n = some t → t.authority = some a → a.platform = p →
        a.state ≠ .issued)) ∧
    (removePlatformHold p r s).platHolds p = q.holds.filter (· != r)) ∧
  (∀ (n : Nat) (r : HoldReason) (t : Train) (s : State), s.train? n = some t →
    let u := s.modTrain n fun k => { k with holds := k.holds.filter (· != r) }
    let waits := ∃ c, t.call = some c ∧ c.phase = .waiting
    (r ∉ t.holds → removeTrainHold n r s = s) ∧
    (r ∈ t.holds → (∃ h ∈ t.holds, h ≠ r) ∨ ¬ waits → removeTrainHold n r s = u) ∧
    (r ∈ t.holds → (∀ h ∈ t.holds, h = r) → waits → removeTrainHold n r s = evaluate n u)) ∧
  (∀ (p : Nat) (r : HoldReason) (q : PlatRec) (s : State), s.plat? p = some q →
    let u := s.modPlat p fun k => { k with holds := k.holds.filter (· != r) }
    (r ∉ q.holds → removePlatformHold p r s = s) ∧
    (r ∈ q.holds → (∃ h ∈ q.holds, h ≠ r) → removePlatformHold p r s = u) ∧
    (r ∈ q.holds → (∀ h ∈ q.holds, h = r) → removePlatformHold p r s = evaluateMany (s.waitingTrains.filter fun n =>
      ((s.train? n).bind (·.call)).map (·.platform) == some p) u)) ∧
  (∀ (n : Nat) (s t : State),
    (∀ x, evaluateCall n s = (.settled, t) ∨ evaluateCall n s = (.noGrant x, t) → evaluate n s = t) ∧
    (∀ x, evaluateCall n s = (.noRoom x, t) → evaluate n s = evaluateMany ((t.waitingInto x).filter fun m =>
      ((t.train? m).bind (·.call)).bind (·.retry) != some (t.lmc.count + 1)) t))

/-- REGULATION_SET, DELAY_SET and ESCALATION_SET: the given parameters of the set named, the two thresholds, or the period of the class,
become the given values in range, and nothing else changes. -/
def Obligations.ParametersSet : Prop :=
  (∀ (tag : Nat) (f : RegulationFields) (s : State), due (.regulationSet tag f) s →
    (f.set = none → badlyFilled (.regulationSet tag f) tag "set" s) ∧
    (fits 60 900 f.headway → fits 0 60 f.tolerance → fits 10 60 f.window →
      let put := fun r : Regulation =>
        { method := f.method.getD r.method, headway := f.headway.getD r.headway, tolerance := f.tolerance.getD r.tolerance,
          window := f.window.getD r.window : Regulation }
      (f.set = some .peak → ∃ g, accepted (.regulationSet tag f) tag s { s with srg.peak := put s.srg.peak } g) ∧
      (f.set = some .offPeak → ∃ g, accepted (.regulationSet tag f) tag s { s with srg.offPeak := put s.srg.offPeak } g)) ∧
    (f.set ≠ none → ¬ fits 60 900 f.headway → badlyFilled (.regulationSet tag f) tag "target_headway" s) ∧
    (f.set ≠ none → fits 60 900 f.headway → ¬ fits 0 60 f.tolerance → badlyFilled (.regulationSet tag f) tag "early_tolerance" s) ∧
    (f.set ≠ none → fits 60 900 f.headway → fits 0 60 f.tolerance → ¬ fits 10 60 f.window →
      badlyFilled (.regulationSet tag f) tag "start_window" s)) ∧
  (∀ (tag : Nat) (a b : Option Nat) (s : State), due (.delaySet tag a b) s →
    (¬ given 60 1800 a → badlyFilled (.delaySet tag a b) tag "on-threshold" s) ∧
    (∀ x, a = some x → 60 ≤ x → x ≤ 1800 →
      (¬ given 0 600 b → badlyFilled (.delaySet tag a b) tag "off-threshold" s) ∧
      (∀ y, b = some y → y ≤ 600 →
        (x ≤ y → badlyFilled (.delaySet tag a b) tag "off-threshold" s) ∧
        (y < x → ∃ f, accepted (.delaySet tag a b) tag s { s with srg.onThreshold := x, srg.offThreshold := y } f)))) ∧
  (∀ (tag : Nat) (c : Option IncClass) (n : Option Nat) (s : State), due (.escalationSet tag c n) s →
    (c = none → badlyFilled (.escalationSet tag c n) tag "class" s) ∧
    (c ≠ none → ¬ given 30 600 n → badlyFilled (.escalationSet tag c n) tag "period" s) ∧
    (∀ x k, c = some x → n = some k → 30 ≤ k → k ≤ 600 →
      (∃ f, accepted (.escalationSet tag c n) tag s { s with inm.periods := s.inm.periods.put x k } f) ∧
      (∀ y, (s.inm.periods.put x k).get y = if y = x then k else s.inm.periods.get y)))

/-- LEARN_SET, LEARN_RESET and AUTHORITY_CLEAR: the given learning fields of the segment are replaced and its learned time is clamped; the
learned time of a segment, or of all, becomes its nominal value; an UNCONFIRMED authority ends as withdrawn with a TRAIN notice. Each has
its refusals, and a request about learning raises no notice. What a sample does: it counts when it is of a move from a segment to its
successor, no platform, entered by a move and left without a stall, between a third of the nominal value and three times it, and it moves
the learned time by the difference over the filter's divisor, the quotient rounded halves away from zero (log 14), within the clamps. What
the end of an authority does: an authority that ends as withdrawn is removed with its grant, the section is offered again, and a call at
its platform, unless that gave it a new authority (log 33), is WAITING and evaluated. What the payload of a REVOKE_ECHO does: nothing for
an id that no authority of the unit bears, or an ISSUED one; a REVOKING one of a train that has departed ends, with TRACK_DISCREPANCY at
WITHDRAWN; another REVOKING or UNCONFIRMED one ends as withdrawn at WITHDRAWN, and as consumed at TOO_LATE, the call at its platform
DEPARTING for 30 s (the raise before the evaluation: log 48). What the outcome of an AUTHORISE does: a delivered one is sent, and a REVOKE
follows when it is REVOKING; a failed one of an ISSUED authority takes it and its grant, and the call waits 1 s. -/
def Obligations.LearningAndAuthorities : Prop :=
  (∀ (tag : Nat) (g : Option Nat) (f : Option OneOrAdapt) (lo up : Option Nat) (s : State), due (.learnSet tag g f lo up) s →
    let known := f.all fun w => (filterOf? w).isSome
    (¬ given 0 127 g → badlyFilled (.learnSet tag g f lo up) tag "segment" s) ∧
    (∀ i, g = some i → i ≤ 127 →
      (known = false → badlyFilled (.learnSet tag g f lo up) tag "filter" s) ∧
      (known = true → ¬ fits 0 50 lo → badlyFilled (.learnSet tag g f lo up) tag "lower" s) ∧
      (known = true → fits 0 50 lo → ¬ fits 0 50 up → badlyFilled (.learnSet tag g f lo up) tag "upper" s) ∧
      (known = true → fits 0 50 lo → fits 0 50 up →
        (s.desc.segment? i = none → refusedWith (.learnSet tag g f lo up) tag .notFound [] s) ∧
        (∀ x, s.desc.segment? i = some x →
          let y := { x with filter := (f.bind filterOf?).getD x.filter, lower := lo.getD x.lower, upper := up.getD x.upper }
          accepted (.learnSet tag g f lo up) tag s
            (State.setLearned i (learnClamp y (s.learned i))
              { s with lmc.working.segments := insertBy (·.index) y s.lmc.working.segments }) [])))) ∧
  (∀ (tag : Nat) (g : Option OneOrAll) (s : State), due (.learnReset tag g) s →
    (g = none → badlyFilled (.learnReset tag g) tag "segment" s) ∧
    (g = some .all →
      accepted (.learnReset tag g) tag s (forEach s.desc.segments (fun x t => t.setLearned x.index x.nominal) s) []) ∧
    (∀ i, g = some (.one i) →
      (127 < i → badlyFilled (.learnReset tag g) tag "segment" s) ∧
      (i ≤ 127 →
        (s.desc.segment? i = none → refusedWith (.learnReset tag g) tag .notFound [] s) ∧
        (∀ x, s.desc.segment? i = some x → accepted (.learnReset tag g) tag s (s.setLearned i x.nominal) [])))) ∧
  (∀ (tag : Nat) (n : Option Nat) (s : State), due (.authorityClear tag n) s →
    (¬ given 1 999 n → badlyFilled (.authorityClear tag n) tag "train" s) ∧
    (∀ k, n = some k → 1 ≤ k → k ≤ 999 →
      (s.train? k = none → refusedWith (.authorityClear tag n) tag .notFound [] s) ∧
      (∀ t, s.train? k = some t →
        ((∀ a, t.authority = some a → a.state ≠ .unconfirmed) → refusedWith (.authorityClear tag n) tag .state [] s) ∧
        (∀ a, t.authority = some a → a.state = .unconfirmed →
          ∃ f, accepted (.authorityClear tag n) tag s ((endWithdrawn k s).trainNotice k).conclude f)))) ∧
  (∀ (n o h : Nat) (stalled : Bool) (s : State),
    (∀ g t, s.desc.segment? o = some g → s.train? n = some t →
      let x := 10 * (s.lmc.count - t.entryMark)
      let counts := g.successor = some h ∧ t.entryMove = true ∧ g.platform = none ∧ stalled = false ∧ x ≤ 3 * g.nominal ∧
        g.nominal ≤ 3 * x
      (counts → takeSample n o h stalled s = s.setLearned o (learnStep g (s.learned o) x)) ∧
      (¬ counts → takeSample n o h stalled s = s)) ∧
    (∀ (g : Segment) (l x : Nat),
      let d := (x : Int) - l
      let k := match g.filter with
        | .k8 => 8
        | .k16 => 16
        | .k32 => 32
        | .adapt => if 100 * d.natAbs ≤ 5 * l then 32 else if 100 * d.natAbs ≤ 20 * l then 16 else 8
      let q := (2 * d.natAbs + k) / (2 * k)
      learnStep g l x = max ((g.nominal * (100 - g.lower) + 99) / 100)
        (min (g.nominal * (100 + g.upper) / 100) (if d < 0 then l - q else l + q)))) ∧
  (∀ (n : Nat) (t : Train) (a : Authority) (s : State), s.train? n = some t → t.authority = some a →
    let u := dropGrant n (s.modTrain n fun r => { r with authority := none })
    let call := (u.train? n).bind (·.call)
    ((u.train? n).bind (·.authority) ≠ none → endWithdrawn n s = u) ∧
    ((u.train? n).bind (·.authority) = none →
      (call = none → endWithdrawn n s = u) ∧
      (∀ c, call = some c → endWithdrawn n s =
        if c.platform = a.platform then evaluate n (u.modCall n fun d => { d with phase := .waiting }) else authorityEnded n u))) ∧
  (∀ (n : Nat) (s : State),
    ((∃ c, (s.train? n).bind (·.call) = some c ∧ c.phase = .waiting) → authorityEnded n s = evaluate n s) ∧
    ((∀ c, (s.train? n).bind (·.call) = some c → c.phase ≠ .waiting) → authorityEnded n s = s) ∧
    (s.grant? n = none → dropGrant n s = s) ∧
    (∀ g, s.grant? n = some g →
      let t := { s with tpc.grants := s.tpc.grants.filter (·.train != n) }
      dropGrant n s = if s.secState? g.sec = some .energised then reoffer g.sec t else t)) ∧
  (∀ (a : Nat) (p : List Octet) (s : State),
    let u := takeRevokeEcho a p s
    let bearers := fun i : Octet => s.trk.trains.find? fun t => (t.authority.map (·.id)) == some i.toNat
    ((∀ i o, p = [i, o] → 1 < o.toNat) → u = s) ∧
    (∀ i o, p = [i, o] → o.toNat ≤ 1 →
      (bearers i = none → u = s) ∧
      (∀ t r, bearers i = some t → t.authority = some r →
        let n := t.number
        let freed := s.modTrain n fun q => { q with authority := none }
        let promised := authorityEnded n (freed.modCall n fun c =>
          if c.platform = r.platform then { c with phase := .departing, departWait := some (s.lmc.count + 30) } else c)
        (s.platformUnit r.platform ≠ a → u = s) ∧
        (s.platformUnit r.platform = a →
          (r.state = .issued → u = s) ∧
          (r.state = .revoking → r.departed = true → u = authorityEnded n
            (if o.toNat = 1 then freed else platformDiscrepancy r.platform 2 .tracker freed)) ∧
          ((r.state = .revoking ∧ r.departed = false) ∨ r.state = .unconfirmed →
            u = if o.toNat = 1 then promised else endWithdrawn n s))))) ∧
  (∀ (id : Nat) (o : FrameEnd) (t : Train) (a : Authority) (s : State),
    (s.trk.trains.find? fun t => (t.authority.map (·.id)) == some id) = some t → t.authority = some a →
    let n := t.number
    let u := authoriseOutcome id o s
    let marked := s.modAuthority n fun r => { r with sent := true }
    (o = .delivered → u = if a.state = .revoking ∧ a.sent = false then
      (postOrDrop (s.platformUnit a.platform) (.revoke a.id) marked).modAuthority n fun r =>
        { r with revokeSends := 1, echoLimit := some (s.lmc.count + 3) }
      else marked) ∧
    (o ≠ .delivered → a.state = .revoking → a.sent = false → u = endWithdrawn n s) ∧
    (o = .failed → a.state = .issued → u =
      (dropGrant n (s.modTrain n fun r => { r with authority := none })).modCall n fun c =>
        if c.platform = a.platform then { c with phase := .waiting, retry := some (s.lmc.count + 1) } else c))

/-- TARGET_EXPIRY, RETRY_EXPIRY, AUTHORITY_LAPSE, REVOKE_ECHO_LIMIT and DEPARTURE_WAIT_EXPIRY: each acts when the count has come to its
value, or passed it (log 2), in the state of the call or authority it belongs to: a DWELLING call is evaluated at its target, a WAITING
one at its retry mark; an ISSUED authority is revoked 30 s after its issue; a REVOKING one is echoed no more; a DEPARTING call raises
TRACK_DISCREPANCY, becomes WAITING and is evaluated. Before, or without such a call or authority, nothing changes (log 1). What a
revocation leaves: an authority that is not ISSUED as it was; one that was SENT REVOKING, with the first REVOKE sent and its echo limit 3
s ahead; one whose frame is on the line REVOKING; and one whose frame left the queue ended as withdrawn, so that under a hold the train
has neither authority nor grant and its call at the platform is WAITING. What an evaluation leaves: WAITING when a check fails or the
grant is refused; AUTHORISED with an ISSUED authority, its grant and its AUTHORISE frame; or, with no room for the frame, WAITING with a
retry mark 1 s ahead and no grant. The checks of an evaluation hold, for the section of the segment after the platform, exactly when the
hold sets of the train and the platform are empty, that segment is CLEAR, its section ENERGISED, the mode TRAFFIC or REDUCED, and the
train has no authority. Several calls are evaluated in turn, and after a refused grant no further one into that section. The delay rule:
from the on-threshold on, a train has a delay entry posted, or the minutes of the one that it has set anew; at the off-threshold or below,
the entry is withdrawn. -/
def Obligations.ServiceTimersExpire : Prop :=
  (∀ (n : Nat) (s : State),
    ((s.train? n).bind (·.call) = none → exec (.targetExpiry n) s = .next s ∧ exec (.retryExpiry n) s = .next s ∧
      exec (.departureWaitExpiry n) s = .next s) ∧
    ((s.train? n).bind (·.authority) = none → exec (.authorityLapse n) s = .next s ∧ exec (.revokeEchoLimit n) s = .next s) ∧
    (∀ c, (s.train? n).bind (·.call) = some c →
      (c.phase ≠ .dwelling ∨ s.lmc.count < c.target → exec (.targetExpiry n) s = .next s) ∧
      (c.phase = .dwelling → c.target ≤ s.lmc.count → exec (.targetExpiry n) s = .next (evaluate n s).conclude) ∧
      ((∀ m, c.retry = some m → s.lmc.count < m) → exec (.retryExpiry n) s = .next s) ∧
      (∀ m, c.retry = some m → m ≤ s.lmc.count →
        let t := s.modCall n fun d => { d with retry := none }
        (c.phase = .waiting → exec (.retryExpiry n) s = .next (evaluate n t).conclude) ∧
        (c.phase ≠ .waiting → exec (.retryExpiry n) s = .next t.conclude)) ∧
      ((c.phase ≠ .departing ∨ ∀ m, c.departWait = some m → s.lmc.count < m) → exec (.departureWaitExpiry n) s = .next s) ∧
      (∀ m, c.phase = .departing → c.departWait = some m → m ≤ s.lmc.count → exec (.departureWaitExpiry n) s =
        .next (evaluate n ((platformDiscrepancy c.platform 2 .tracker s).modCall n fun d =>
          { d with phase := .waiting, departWait := none })).conclude)) ∧
    (∀ a, (s.train? n).bind (·.authority) = some a →
      (a.state ≠ .issued ∨ s.lmc.count < a.issuedCount + 30 → exec (.authorityLapse n) s = .next s) ∧
      (a.state = .issued → a.issuedCount + 30 ≤ s.lmc.count → exec (.authorityLapse n) s = .next (revoke n s).conclude) ∧
      ((a.state ≠ .revoking ∨ ∀ m, a.echoLimit = some m → s.lmc.count < m) → exec (.revokeEchoLimit n) s = .next s) ∧
      (∀ m, a.state = .revoking → a.echoLimit = some m → m ≤ s.lmc.count →
        (a.revokeSends < 2 → exec (.revokeEchoLimit n) s =
          .next ((postOrDrop (s.platformUnit a.platform) (.revoke a.id) s).modAuthority n fun r =>
            { r with revokeSends := 2, echoLimit := some (s.lmc.count + 3) }).conclude) ∧
        (2 ≤ a.revokeSends → a.departed = true → exec (.revokeEchoLimit n) s =
          .next (authorityEnded n (s.modTrain n fun t => { t with authority := none })).conclude) ∧
        (2 ≤ a.revokeSends → a.departed = false → exec (.revokeEchoLimit n) s =
          .next (platformDiscrepancy a.platform 3 .link
            ((s.modAuthority n fun r => { r with state := .unconfirmed, echoLimit := none }).trainNotice n)).conclude)))) ∧
  (∀ (n : Nat) (t : Train) (s : State), s.train? n = some t →
    ((∀ a, t.authority = some a → a.state ≠ .issued) → revoke n s = s) ∧
    (∀ a, t.authority = some a → a.state = .issued →
      (a.sent = true → (revoke n s).train? n = some
        { t with authority := some { a with state := .revoking, revokeSends := 1, echoLimit := some (s.lmc.count + 3) } }) ∧
      (a.sent = false → (∀ f, findFrame (isAuthoriseOf a.id) s = some f → f.onLine = true) →
        (revoke n s).train? n = some { t with authority := some { a with state := .revoking } }) ∧
      (∀ f, a.sent = false → findFrame (isAuthoriseOf a.id) s = some f → f.onLine = false →
        revoke n s = endWithdrawn n
          { (s.modAuthority n fun b => { b with state := .revoking }) with wlc.outQueue := s.wlc.outQueue.erase f } ∧
        (t.holds ≠ [] → (revoke n s).grant? n = none ∧ ∃ q, (revoke n s).train? n = some q ∧ q.authority = none ∧
          ∀ c, t.call = some c → c.platform = a.platform → q.call = some { c with phase := .waiting })))) ∧
  (∀ (n : Nat) (t : Train) (c : Call) (s : State), s.train? n = some t → t.call = some c →
    (evaluationChecks s t c = none → evaluate n s = s.modCall n fun d => { d with phase := .waiting }) ∧
    (∀ x, evaluationChecks s t c = some x →
      let g := requestGrant n x t.draw s.regulation.window s
      let id := nextId 255 s.authorityIds s.srg.authorityLast
      (g.1 = false → evaluate n s = g.2.modCall n fun d => { d with phase := .waiting }) ∧
      (g.1 = true → s.wlc.outQueue.length < 32 →
        (evaluate n s).train? n = some
          { t with authority := some { id := id, platform := c.platform, state := .issued, issuedTime := s.lmc.lineTime,
                                       issuedCount := s.lmc.count, sent := false, revokeSends := 0, departed := false,
                                       echoLimit := none },
                   call := some { c with phase := .authorised, retry := none } } ∧
        (evaluate n s).tpc.grants = g.2.tpc.grants ∧
        ∃ f ∈ (evaluate n s).wlc.outQueue, f.dest = s.platformUnit c.platform ∧ f.body = .authorise c.platform n id) ∧
      (g.1 = true → 32 ≤ s.wlc.outQueue.length →
        (evaluate n s).train? n = some { t with call := some { c with phase := .waiting, retry := some (s.lmc.count + 1) } } ∧
        (evaluate n s).grant? n = none))) ∧
  (∀ (t : Train) (c : Call) (x : Nat) (s : State), evaluationChecks s t c = some x ↔
      t.holds = [] ∧ s.platHolds c.platform = [] ∧
      (∃ g, s.desc.nextSegment? c.platform = some g ∧ s.occ g = .clear ∧
        s.desc.sectionOf? g = some x) ∧ s.secState? x = some .energised ∧ (s.lmc.mode = .traffic ∨ s.lmc.mode = .reduced) ∧
      t.authority = none) ∧
  (∀ (p v : Nat) (o : RaiseOrigin) (s : State),
    (s.desc.platformSegment? p = none → platformDiscrepancy p v o s = s) ∧
    (∀ g, s.desc.platformSegment? p = some g →
      platformDiscrepancy p v o s = raised .trackDiscrepancy v (.segment g.index) o s)) ∧
  (∀ (n : Nat) (t : Train) (k : Nat) (s : State), s.train? n = some t → t.trip = some k →
    let minutes := (t.deviation.toNat + 59) / 60
    let post : Post := { template := s.desc.params.delayTemplate, station := none, minutes := some minutes, platform := none,
                         train := some t.number, priority := .service, scope := ((s.tripPoints k).drop t.nextPoint).map (·.station),
                         origin := .train t.number, rep := .times 2, interval := some 180, expiryAfter := none, display := true }
    ((s.srg.onThreshold : Int) ≤ t.deviation → t.delayEntry = none → delayRule n s =
      match internalPost post s with
      | (some id, u) => u.modTrain n fun r => { r with delayEntry := some id }
      | (none, u) => u) ∧
    (∀ id, (s.srg.onThreshold : Int) ≤ t.deviation → t.delayEntry = some id →
      (∀ e, s.entry? id = some e → e.withdrawing = none →
        delayRule n s = (s.modEntry id fun w => { w with minutes := some minutes }).displaysAt (e.deliveries.map (·.station))) ∧
      ((∀ e, s.entry? id = some e → e.withdrawing ≠ none) →
        delayRule n s = s.modTrain n fun r => { r with delayEntry := none })) ∧
    (t.deviation < s.srg.onThreshold → delayRule n s = if t.deviation ≤ s.srg.offThreshold then dropDelay n s else s) ∧
    (t.delayEntry = none → dropDelay n s = s) ∧
    (∀ id, t.delayEntry = some id →
      dropDelay n s = withdrawEntry id .withdrawn (s.modTrain n fun r => { r with delayEntry := none }))) ∧
  (∀ (n x : Nat) (rest : List Nat) (s t : State), s.waitingSection? n = some x →
    (evaluateCall n s = (.settled, t) → evaluateMany [n] s = t) ∧
    (evaluateCall n s = (.noGrant x, t) → (∀ m ∈ rest, t.waitingSection? m = some x) → evaluateMany (n :: rest) s = t) ∧
    evaluateMany [] s = s)

/-! ### Traction power -/

/-- ENERGISE and ENERGISE_ALL: outside SURVEY, a DEAD or TRIPPED section without a permit and without an entry takes a WAITING entry, its
lockout NO and its reclose expiry absent; ENERGISE_ALL gives one to each DEAD section without an entry and without a claim. The refusals
of ENERGISE come in the order of its checks. What a sequence does next: it goes to the first feeder after the last one, ascending, that is
not CLOSED, places its CLOSE once the command queue has room and no section the feeder feeds is HELD or has a permit open, outside SURVEY,
and waits for it; after the last feeder it waits, to a count 10 s on, for the voltage, whose presence makes it DONE and the section
ENERGISED. Of the WAITING entries that of the lowest section begins while fewer than two run: the section is ENERGISING, its reclose
expiry is gone, and a RECLOSE has 60 s of span. -/
def Obligations.SequencesPlaced : Prop :=
  (∀ (tag : Nat) (o : Option Nat) (s : State), due (.energise tag o) s →
    (¬ given 0 23 o → badlyFilled (.energise tag o) tag "section" s) ∧
    (∀ x, o = some x → x ≤ 23 →
      (s.sec? x = none → refusedWith (.energise tag o) tag .notFound [] s) ∧
      (∀ r, s.sec? x = some r →
        (s.lmc.mode = .survey → refusedWith (.energise tag o) tag .mode [] s) ∧
        (s.lmc.mode ≠ .survey → s.permitOpen x = true → refusedWith (.energise tag o) tag .permitOpen [] s) ∧
        (s.lmc.mode ≠ .survey → s.permitOpen x = false → r.state = .held → refusedWith (.energise tag o) tag .held [] s) ∧
        (s.lmc.mode ≠ .survey → s.permitOpen x = false → r.state ≠ .held →
          ((r.state ≠ .dead ∧ r.state ≠ .tripped) ∨ r.seq ≠ none → refusedWith (.energise tag o) tag .state [] s) ∧
          (r.state = .dead ∨ r.state = .tripped → r.seq = none → ∃ f, accepted (.energise tag o) tag s
            ((clearLockout x s).modSec x fun q =>
              { q with seq := some { origin := .operator, running := none, closed := [] } }).conclude f))))) ∧
  (∀ (tag : Nat) (s : State), due (.energiseAll tag) s →
    (s.lmc.mode = .survey → refusedWith (.energiseAll tag) tag .mode [] s) ∧
    (s.lmc.mode ≠ .survey → ∃ f, accepted (.energiseAll tag) tag s
      (forEach ((s.tpc.sections.filter fun r => r.state == .dead && r.seq.isNone && r.claims.isEmpty).map (·.index))
        (fun x t => placeSeq x .all t) s).conclude f)) ∧
  (∀ (x : Nat) (o : SeqOrigin) (s : State) (r : SecRec), s.sec? x = some r →
    (placeSeq x o s).sec? x = some { r with seq := some { origin := o, running := none, closed := [] } } ∧
    (clearLockout x s).sec? x = some { r with lockout := false, reclose := none }) ∧
  (∀ (x : Nat) (s : State),
    (∀ after, seqMove? s (x, .next after) = some (advanceSeq x after s)) ∧
    (∀ b, let may := s.tpc.queue.length < 16 ∧ s.lmc.mode ≠ .survey ∧
        ∀ y ∈ s.desc.sectionsFed b, s.secState? y ≠ some .held ∧ s.permitOpen y = false
      (may → seqMove? s (x, .placing b) = some (setStep x (.command b) { s with
        tpc.queue := s.tpc.queue ++ [{ breaker := b, unit := s.desc.breakerUnit b, action := .closing, origin := .sequence,
                                       phase := .queued, code := 0, window := none }] })) ∧
      (¬ may → seqMove? s (x, .placing b) = none)) ∧
    (∀ b, seqMove? s (x, .command b) = none) ∧
    (∀ e, (s.voltage x = .present → seqMove? s (x, .confirm e) = some (removeSeq x .done (changeSection x .energised s))) ∧
      (s.voltage x ≠ .present → seqMove? s (x, .confirm e) = none))) ∧
  (∀ (x : Nat) (after : Option Nat) (s : State),
    let ahead := fun b : Nat => ∀ a, after = some a → a < b
    (∀ l b m, s.desc.feedersOf x = l ++ b :: m → ahead b → s.brkState? b ≠ some .closed →
      (∀ c ∈ l, ahead c → s.brkState? c = some .closed) → advanceSeq x after s = setStep x (.placing b) s) ∧
    ((∀ b ∈ s.desc.feedersOf x, ahead b → s.brkState? b = some .closed) →
      advanceSeq x after s = setStep x (.confirm (s.lmc.count + 10)) s)) ∧
  (∀ s : State,
    let running := (s.tpc.sections.filter fun r => (r.seq.bind (·.running)).isSome).length
    let waits := fun r : SecRec => ∃ e, r.seq = some e ∧ e.running = none
    (2 ≤ running ∨ (∀ r ∈ s.tpc.sections, ¬ waits r) → s.nextSeq? = none) ∧
    (∀ a r b, running < 2 → s.tpc.sections = a ++ r :: b → (∀ q ∈ a, ¬ waits q) → waits r → s.nextSeq? = some r) ∧
    ∀ r : SecRec, startSeq r s = changeSection r.index .energising (s.modSec r.index fun q =>
      { q with seq := q.seq.map fun e => { e with running := some (.next none) }, reclose := none,
               span := if r.seq.map (·.origin) = some .reclose then some (s.lmc.count + 60) else q.span })) ∧
  (∀ (x : Nat) (st : SeqStep) (r : SecRec) (e : SeqEntry) (s : State), s.sec? x = some r → r.seq = some e →
    (setStep x st s).sec? x = some { r with seq := some { e with running := some st } })

/-- DEENERGISE, BREAKER_COMMAND and HOLD_RELEASE, with their refusals in order: a section is de-energised; an OPEN is placed for a breaker
that has none; a CLOSE is placed for an OPEN breaker whose sections are all ENERGISED; a HELD section becomes DEAD. What each leaves: a
section that is de-energised is DEAD, with no sequence, no lockout and no reclose expiry, and the other sections' states as they were;
where an OPEN is placed, no CLOSE of the breaker is left in the queue, and its OPEN is there, or has ended FAILED_DELIVERY because its
SELECT was refused, or is owed, which happens only when the queue is full after the cancelled CLOSE has left it and the opens owed before
have taken their places. What the end of a command leaves: it is out of the queue, the breaker has its outcome, it is reported to its
origin, and a SECTION notice is raised unless it ended DONE for another origin than the operator; a running sequence whose CLOSE ended
DONE goes on, and one whose CLOSE failed fails, as do the isolations that waited for the breaker. What the payload of a SELECT_ECHO does:
a matching echo makes the SELECTING command SELECTED, with a window of 8 s, and posts its OPERATE, or ends it FAILED_DELIVERY with no room
for it; one that does not match ends it ECHO_MISMATCH, with a CANCEL_SELECT; an echo for no command is answered with CANCEL_SELECT. What
the outcome of a SELECT does: a delivered one starts the window while the command is SELECTING, a failed one ends the command
FAILED_DELIVERY and withdraws its OPERATE (an echo before the outcome: log 55), and one that was to be withdrawn is cancelled if it was
delivered. What the outcome of an OPERATE does: delivered, the breaker moves for at most 5 s and the command leaves the queue; otherwise
the command ends FAILED_DELIVERY. Which section's notice is raised is log 24, and the queue of reports is log 10, what is handed on at
once log 70. -/
def Obligations.SectionsSwitched : Prop :=
  (∀ (tag : Nat) (o : Option Nat) (s : State), due (.deenergise tag o) s →
    (¬ given 0 23 o → badlyFilled (.deenergise tag o) tag "section" s) ∧
    (∀ x, o = some x → x ≤ 23 →
      (s.sec? x = none → refusedWith (.deenergise tag o) tag .notFound [] s) ∧
      (∀ r, s.sec? x = some r →
        (r.state = .isolating ∨ r.state = .isolated ∨ r.state = .held → refusedWith (.deenergise tag o) tag .state [] s) ∧
        (r.state ≠ .isolating → r.state ≠ .isolated → r.state ≠ .held →
          ∃ f, accepted (.deenergise tag o) tag s (deenergiseNow x s).conclude f)))) ∧
  (∀ (tag : Nat) (o : Option Nat) (a : Option Action) (s : State), due (.breakerCommand tag o a) s →
    (¬ given 0 47 o → badlyFilled (.breakerCommand tag o a) tag "breaker" s) ∧
    (given 0 47 o → a = none → badlyFilled (.breakerCommand tag o a) tag "action" s) ∧
    (∀ b, o = some b → b ≤ 47 →
      (a ≠ none → s.brk? b = none → refusedWith (.breakerCommand tag o a) tag .notFound [] s) ∧
      (s.brk? b ≠ none → a = some .opening →
        (s.openComing b = true → refusedWith (.breakerCommand tag o a) tag .state [] s) ∧
        (s.openComing b = false →
          ∃ f, accepted (.breakerCommand tag o a) tag s (placeOpen b .operator s).conclude f)) ∧
      (s.brk? b ≠ none → a = some .closing →
        (s.lmc.mode = .survey → refusedWith (.breakerCommand tag o a) tag .mode [] s) ∧
        (s.lmc.mode ≠ .survey →
          ((∃ x ∈ s.desc.sectionsFed b, s.permitOpen x = true) →
            refusedWith (.breakerCommand tag o a) tag .permitOpen [] s) ∧
          ((∀ x ∈ s.desc.sectionsFed b, s.permitOpen x = false) →
            ((∃ x ∈ s.desc.sectionsFed b, s.secIs x .held = true) → refusedWith (.breakerCommand tag o a) tag .held [] s) ∧
            ((∀ x ∈ s.desc.sectionsFed b, s.secIs x .held = false) →
              (∃ x ∈ s.desc.sectionsFed b, s.secIs x .energised = false) ∨ s.brkState? b ≠ some .opened ∨ s.command? b ≠ none →
              refusedWith (.breakerCommand tag o a) tag .state [] s) ∧
            ((∀ x ∈ s.desc.sectionsFed b, s.secIs x .energised = true) → s.brkState? b = some .opened → s.command? b = none →
              (16 ≤ s.tpc.queue.length → refusedWith (.breakerCommand tag o a) tag .full [] s) ∧
              (s.tpc.queue.length < 16 → ∃ f, accepted (.breakerCommand tag o a) tag s
                (State.conclude { s with tpc.queue := s.tpc.queue ++
                  [{ breaker := b, unit := s.desc.breakerUnit b, action := .closing, origin := .operator, phase := .queued,
                     code := 0, window := none }] }) f))))))) ∧
  (∀ (tag : Nat) (o : Option OneOrAll) (s : State), due (.holdRelease tag o) s →
    (o = none → badlyFilled (.holdRelease tag o) tag "section" s) ∧
    (∀ x, o = some (.one x) →
      (23 < x → badlyFilled (.holdRelease tag o) tag "section" s) ∧
      (x ≤ 23 →
        (s.sec? x = none → refusedWith (.holdRelease tag o) tag .notFound [] s) ∧
        (∀ r, s.sec? x = some r →
          (s.permitOpen x = true → refusedWith (.holdRelease tag o) tag .permitOpen [] s) ∧
          (s.permitOpen x = false → r.state ≠ .held → refusedWith (.holdRelease tag o) tag .state [] s) ∧
          (s.permitOpen x = false → r.state = .held →
            ∃ f, accepted (.holdRelease tag o) tag s (changeSection x .dead s).conclude f)))) ∧
    (o = some .all → ∃ f, accepted (.holdRelease tag o) tag s
      (forEach (((s.tpc.sections.filter (·.state == .held)).map (·.index)).filter fun x => !s.permitOpen x)
        (fun x t => changeSection x .dead t) s).conclude f)) ∧
  (∀ (x : Nat) (s : State), s.sec? x ≠ none →
    let u := deenergiseNow x s
    (∃ q, u.sec? x = some q ∧ q.state = .dead ∧ q.seq = none ∧ q.lockout = false ∧ q.reclose = none) ∧
    ∀ y, y ≠ x → u.secState? y = s.secState? y) ∧
  (∀ (b : Nat) (origin : CmdOrigin) (s : State), Keyed s → s.brk? b ≠ none →
    let u := placeOpen b origin s
    (s.openComing b = true → u = s) ∧
    (s.openComing b = false → u.closeCmd? b = none ∧
      ((∃ c, u.openCmd? b = some c ∧ c.origin = origin) ∨
        ((u.brk? b).bind (·.owed) = some origin ∧
          16 ≤ (s.tpc.queue.filter fun c => !(c.breaker == b && c.action == .closing)).length +
            (s.tpc.breakers.filter (·.owed.isSome)).length) ∨
        ∃ r ∈ u.tpc.reports, r.breaker = b ∧ r.action = .opening ∧ r.origin = origin ∧ r.outcome = .failedDelivery))) ∧
  (∀ (c : Cmd) (o : CmdOutcome) (s : State),
    endCmd c o s = reportEnd c.breaker c.action c.origin o
      { s with tpc.queue := s.tpc.queue.filter fun d => !(c.breaker == d.breaker && c.action == d.action) } ∧
    (∀ b a origin,
      let t := s.modBrk b fun r => { r with outcome := some o }
      let u := { t with tpc.reports := s.tpc.reports ++
        [{ breaker := b, action := a, origin := origin, outcome := o, waiting := s.waitingOn b }] }
      reportEnd b a origin o s = if o ≠ .done ∨ origin = .operator then u.breakerNotice b else u) ∧
    takeReports s = forEach s.tpc.reports takeReport { s with tpc.reports := [] }) ∧
  (∀ (r : Report) (s : State),
    let runs := s.runningSeqs.find? fun q => q.2 == .command r.breaker
    let answers := r.origin = .sequence ∧ r.action = .closing ∧ s.closeCmd? r.breaker = none
    (∀ x st, runs = some (x, st) → answers → r.outcome = .done → takeReport r s =
      setStep x (.next (some r.breaker)) (s.modSec x fun q =>
        { q with seq := q.seq.map fun e => { e with closed := e.closed ++ [r.breaker] } })) ∧
    (∀ x st, runs = some (x, st) → answers → r.outcome ≠ .done → takeReport r s =
      failWaiting r.waiting r.breaker r.outcome (failSeq x (.failedBreaker r.breaker r.outcome) s)) ∧
    (runs = none ∨ ¬ answers → takeReport r s =
      if r.outcome = .done then s else failWaiting r.waiting r.breaker r.outcome s)) ∧
  (∀ (a : Nat) (p : List Octet) (s : State),
    let u := takeSelectEcho a p s
    let fits := fun n x c : Octet => p = [n, x, c] ∧ 1 ≤ n.toNat ∧ n.toNat ≤ 16 ∧ x.toNat ≤ 1
    ((∀ n x c, ¬ fits n x c) → u = s) ∧
    (∀ n x c, fits n x c →
      (s.inFlightOf a = none → u = cancelSelect a n.toNat c.toNat s) ∧
      (∀ cmd, s.inFlightOf a = some cmd →
        let number := s.breakerNumber cmd.breaker
        let same := number = n.toNat ∧ cmd.action = (if x.toNat = 0 then .opening else .closing) ∧ cmd.code = c.toNat
        let t := s.modCmd cmd fun d => { d with phase := .selected, window := some (s.lmc.count + 8) }
        (cmd.phase = .selecting → same →
          (s.wlc.outQueue.length < 32 → some u = postFrame a (.operate number c.toNat) t) ∧
          (32 ≤ s.wlc.outQueue.length → u = takeReports (endCmd cmd .failedDelivery t))) ∧
        (cmd.phase = .selecting → ¬ same → u = cancelSelect a number cmd.code (takeReports (endCmd cmd .echoMismatch s))) ∧
        (cmd.phase ≠ .selecting → number = n.toNat ∧ cmd.code = c.toNat → u = s) ∧
        (cmd.phase ≠ .selecting → ¬ (number = n.toNat ∧ cmd.code = c.toNat) → u = cancelSelect a n.toNat c.toNat s)))) ∧
  (∀ (f : OutFrame) (number code : Nat) (o : FrameEnd) (s : State),
    let u := selectOutcome f number code o s
    (f.withdrawing = true → u = if o = .delivered then cancelSelect f.dest number code s else s) ∧
    (f.withdrawing = false → (∀ c, s.inFlightOf f.dest = some c → ¬ (c.code = code ∧ s.breakerNumber c.breaker = number)) →
      u = s) ∧
    (∀ c, f.withdrawing = false → s.inFlightOf f.dest = some c → c.code = code → s.breakerNumber c.breaker = number →
      (o = .delivered → u = if c.phase = .selecting then s.modCmd c fun d => { d with window := some (s.lmc.count + 8) } else s) ∧
      (o ≠ .delivered → u = takeReports (endCmd c .failedDelivery (withdrawFrame (isOperateOf c number) s).2)))) ∧
  (∀ (f : OutFrame) (code : Nat) (o : FrameEnd) (s : State),
    let u := operateOutcome f code o s
    (f.withdrawing = true → u = s) ∧
    (f.withdrawing = false → (∀ c, s.inFlightOf f.dest = some c → ¬ (c.phase = .selected ∧ c.code = code)) → u = s) ∧
    (∀ c, f.withdrawing = false → s.inFlightOf f.dest = some c → c.phase = .selected → c.code = code →
      (o = .delivered → u = forEach (ascending (s.desc.sectionsFed c.breaker)) recomputeBudget
        (setBreaker c.breaker (.moving (if c.action = .opening then .opened else .closed) (s.lmc.count + 5) c.origin)
          { s with tpc.queue := s.tpc.queue.filter fun d => !(c.breaker == d.breaker && c.action == d.action) })) ∧
      (o ≠ .delivered → u = takeReports (endCmd c .failedDelivery s))))

/-- A section that takes a state has it afterwards, and no other section's state changes by it; in order, the SECTION notice, the survey
readiness (log 76), an entry abandoned, POWER on the platforms into it on leaving ENERGISED and off, evaluating, on entering it, CLOSEs
cancelled, and the held count, with a MODE notice as it becomes or leaves 0. At entry to NIGHT_HELD each section that is not keep-live
becomes HELD unless it is ISOLATING, ISOLATED or HELD: it has no sequence, no lockout and no reclose expiry, no CLOSE is in the queue for
a breaker that feeds it, and each of its feeders and ties is OPEN or has an OPEN in the queue or owed, or one that has ended
FAILED_DELIVERY because its SELECT was refused. Every other section keeps its state. What the payload of a POWER_STATUS does, in the
passes that R100 gives, each over the breakers or sections of the unit in ascending order: the positions and voltages are recorded, a
moving breaker that has come to its target ends its command DONE, one seen OPEN with its trip bit is OPEN; the trips are taken; each
section's voltage is derived from its LIVE feeders, PRESENT before ABSENT, and the change acted on by the table of R101; an isolation
takes back a breaker seen closed, or fails; the budgets are computed. What a trip leaves: the breaker OPEN; of a TIE, POWER_TRIP at
severity 2 at its lowest section; of a feeder, its section's entry abandoned, and by the section's state TRIPPED with its lockout, span
and reclose expiry, or the lockout alone, or nothing, with POWER_TRIP at the severity of R107 (a lockout that was YES before: log 32). A
section's budget is the sum, at most 15, of what the LIVE units with a CLOSED feeder of it contribute. What the entry of a head leaves to
the power: a grant in another section is released, and after a move the regeneration windows of the sections of the platforms ahead are
opened for 10 s. Open orders: log 10; what is corrected: log 72. -/
def Obligations.SectionTakesState : Prop :=
  (∀ (x : Nat) (new : SectionState) (s : State), s.sec? x ≠ none →
    (changeSection x new s).secState? x = some new ∧ ∀ y, y ≠ x → (changeSection x new s).secState? y = s.secState? y) ∧
  (∀ (c : ModeCause) (i : Option Nat) (s : State), Keyed s →
    let t := modeChange .nightHeld c i s
    ∀ r ∈ s.tpc.sections,
      let spared := s.keepLive r.index = true ∨ r.state = .isolating ∨ r.state = .isolated ∨ r.state = .held
      (spared → t.secState? r.index = some r.state) ∧
      (¬ spared →
        (∃ q, t.sec? r.index = some q ∧ q.state = .held ∧ q.seq = none ∧ q.lockout = false ∧ q.reclose = none) ∧
        (∀ b ∈ s.desc.breakersFeeding r.index, t.closeCmd? b = none) ∧
        ∀ b ∈ s.desc.breakersOf r.index, s.brkOpen b = true ∨ t.openComing b = true ∨
          ∃ p ∈ t.tpc.reports, p.breaker = b ∧ p.action = .opening ∧ p.outcome = .failedDelivery)) ∧
  (∀ (p : List Octet) (l : List PowerEntry), readPowerStatus p = some l ↔ ∃ n r, p = n :: r ∧ 1 ≤ n.toNat ∧ n.toNat ≤ 16 ∧
    r.length = n.toNat ∧ l = r.map fun o =>
      { number := o.toNat / 16 + 1, closed := o.getLsbD 3, trip := o.getLsbD 2, voltage := o.toNat % 4 }) ∧
  (∀ (a : Nat) (p : List Octet) (s : State),
    (readPowerStatus p = none → takePowerStatus a p s = s) ∧
    (∀ raw, readPowerStatus p = some raw →
      let l := breakerEntries s.desc a raw
      let closed := (l.filter (·.closed)).map (·.breaker)
      let sections := s.desc.unitSections a
      takePowerStatus a p s = forEach sections recomputeBudget (isolationsSee closed
        (forEach sections (reassess closed) (passTrips s l (takeReports (forEach l passBreakers s))))))) ∧
  (∀ (d : Description) (a : Nat) (raw : List PowerEntry),
    (breakerEntries d a raw).Pairwise (fun x y => x.breaker ≤ y.breaker) ∧
    ∀ e, e ∈ breakerEntries d a raw ↔ ∃ r ∈ raw, ∃ b, d.breakerOfNumber? a r.number = some b ∧
      ¬ (b.kind = .feeder ∧ r.voltage = 3) ∧
      e = { breaker := b.index, closed := r.closed, trip := r.trip,
            voltage := if b.kind = .feeder ∧ r.voltage = 1 then some false
                       else if b.kind = .feeder ∧ r.voltage = 2 then some true else none }) ∧
  (∀ (e : BreakerEntry) (s : State),
    let at_ := if e.closed then Position.closed else .opened
    let as := if e.closed then BreakerState.closed else .opened
    let t := s.modBrk e.breaker fun r => { r with position := some at_, voltage := e.voltage.or r.voltage }
    let u := passBreakers e s
    (s.brkState? e.breaker = none → u = s) ∧
    (s.brkState? e.breaker ≠ none → s.brkMoving e.breaker = false → u = setBreaker e.breaker as t) ∧
    (∀ target m o, s.brkState? e.breaker = some (.moving target m o) →
      (target = at_ → u = endMove e.breaker target o as .done t) ∧
      (target ≠ at_ → at_ = .opened → e.trip = true → u = setBreaker e.breaker .opened t) ∧
      (target ≠ at_ → at_ = .closed ∨ e.trip = false → u = t))) ∧
  (∀ (before : State) (l : List BreakerEntry) (s : State),
    let trips := (l.filter fun e => e.trip && wasLive (before.brkState? e.breaker)).map (·.breaker)
    let ends := fun (e : BreakerEntry) (t : State) => match before.brkState? e.breaker with
      | some (.moving .closed _ o) => reportEnd e.breaker .closing o .noResult t
      | _ => t
    passTrips before l s = takeReports (forEach (l.filter fun e => e.trip && !e.closed) ends (forEach trips takeTrip s)) ∧
    ∀ st, wasLive st = true ↔ st = some .closed ∨ ∃ t m o, st = some (.moving t m o)) ∧
  (∀ (b : Nat) (s : State),
    let t := setBreaker b .opened s
    let u := takeTrip b s
    (s.desc.breaker? b = none → u = t) ∧
    (∀ d, s.desc.breaker? b = some d →
      (ascending d.sections = [] → u = t) ∧
      (∀ x q, ascending d.sections = x :: q →
        (d.kind = .tie → u = powerRaise .powerTrip 2 x t) ∧
        (d.kind = .feeder → s.sec? x = none → u = t) ∧
        (∀ r, d.kind = .feeder → s.sec? x = some r →
          let v := abandonSeq x t
          let again := r.span.isSome
          (r.state = .energised ∨ r.state = .energising → u = powerRaise .powerTrip (if again then 4 else 3) x
            (changeSection x .tripped (v.modSec x fun w =>
              { w with lockout := again, span := if again then none else w.span,
                       reclose := if !again && v.recloseAllowed x then some (v.lmc.count + 30) else none }))) ∧
          (r.state = .tripped → u = powerRaise .powerTrip (if again || r.lockout then 4 else 3) x
            (if again then (v.modSec x fun w => { w with lockout := true, span := none, reclose := none }).sectionNotice x
             else v)) ∧
          (r.state = .isolating → u = powerRaise .powerTrip 3 x v) ∧
          (r.state = .isolated ∨ r.state = .held ∨ r.state = .dead ∨ r.state = .unknown →
            u = powerRaise .powerTrip 2 x v))))) ∧
  (∀ (closed : List Nat) (x : Nat) (s : State),
    (s.sec? x = none → reassess closed x s = s) ∧
    (∀ r, s.sec? x = some r → reassess closed x s =
      actOnVoltage x r.state r.voltage (s.derivedVoltage x) closed (s.modSec x fun q => { q with voltage := s.derivedVoltage x })) ∧
    (let told := fun v : Bool => ∃ b ∈ s.desc.feedersOf x, (∃ w, s.unitRec? (s.desc.breakerUnit b) = some w ∧ w.state = .live) ∧
      (s.brk? b).bind (·.voltage) = some v
    (s.derivedVoltage x = .present ↔ told true) ∧ (s.derivedVoltage x = .unknown ↔ ¬ told true ∧ ¬ told false))) ∧
  (∀ (x : Nat) (old new : Voltage) (closed : List Nat) (s : State),
    let act := fun was => actOnVoltage x was old new closed s
    (new = .present → act .unknown = changeSection x .energised s ∧ act .energised = s ∧ act .tripped = s) ∧
    (new = .absent → act .unknown = changeSection x .dead s ∧
      act .energised = powerRaise .powerDiscrepancy 2 x (changeSection x .dead s) ∧ act .tripped = s) ∧
    (new = .unknown → act .unknown = s ∧ act .energised = changeSection x .unknown s ∧
      act .tripped = changeSection x .unknown s) ∧
    act .energising = s ∧ act .isolating = s ∧
    (∀ was, was = .dead ∨ was = .isolated ∨ was = .held →
      let t := if was = .dead ∧ new = .unknown then changeSection x .unknown s else s
      act was = correct x closed (if old ≠ .present ∧ new = .present then powerRaise .powerDiscrepancy 3 x t else t)) ∧
    correct x closed s = forEach ((s.desc.breakersOf x).filter fun b =>
        closed.contains b && !s.brkMoving b && !(s.tpc.queue.any (·.breaker == b)))
      (fun b t => powerRaise .powerDiscrepancy 3 x (placeOpen b .correction t)) s ∧
    (∀ c v t, powerRaise c v x t = raised c v (.powerSection x) .power t)) ∧
  (∀ (closed : List Nat) (s : State),
    isolationsSee closed s = forEach s.tpc.isolations (fun i t =>
      let hit := (t.desc.breakersOf i.sec).filter closed.contains
      match i.phase with
      | .opening w =>
        let back := hit.filter fun b => !w.contains b
        if back = [] then t
        else forEach back (fun b u => placeOpen b .isolation u)
          (t.modIsolation i.sec fun j => { j with phase := .opening (ascending (w ++ back)) })
      | .confirming _ => hit.head?.elim t fun b => failIsolation i.sec (.reportedClosed b) t
      | .clearing => t) s) ∧
  (∀ (x : Nat) (s : State),
    (s.sec? x = none → recomputeBudget x s = s) ∧
    (∀ r, s.sec? x = some r →
      let t := s.modSec x fun q => { q with budget := s.budgetNow x }
      recomputeBudget x s = if r.budget < s.budgetNow x ∧ r.state = .energised then reoffer x t else t) ∧
    s.budgetNow x = min 15 ((s.desc.substations.map (s.contribution x)).sum) ∧
    (∀ sub : Substation,
      let feeds := (∃ w, s.unitRec? sub.unit = some w ∧ w.state = .live) ∧
        ∃ b ∈ s.desc.breakers, b.kind = .feeder ∧ b.unit = sub.unit ∧ x ∈ b.sections ∧ s.brkState? b.index = some .closed
      (feeds → s.contribution x sub = ((sub.contributions.find? (·.1 == x)).map (·.2)).getD 0) ∧
      (¬ feeds → s.contribution x sub = 0))) ∧
  (∀ (e : HeadEntry) (s : State),
    let leaves := ∃ g, s.grant? e.train = some g ∧ s.desc.sectionOf? e.head ≠ some g.sec
    let opens := fun t : State => if e.old = none then t else forEach (windowSections t.desc e.head) openWindow t
    (leaves → entryPower e s = opens (releaseGrant e.train s)) ∧ (¬ leaves → entryPower e s = opens s)) ∧
  (∀ (x : Nat) (s : State),
    (∀ (d : Description) (h : Nat), x ∈ windowSections d h ↔
      ∃ p g, d.platformSegment? p = some g ∧ d.predecessor? g.index = some h ∧ x = g.sec) ∧
    (s.sec? x = none → openWindow x s = s) ∧
    (∀ r, s.sec? x = some r →
      let u := s.modSec x fun q => { q with window := some (s.lmc.count + 10) }
      openWindow x s = if r.window = none ∧ r.state = .energised then reoffer x u else u)) ∧
  (∀ (x : Nat) (new : SectionState) (r : SecRec) (s : State), s.sec? x = some r → r.state ≠ new →
    let into := s.desc.platformsInto x
    let t := (s.modSec x fun q => { q with state := new, lockout := q.lockout && r.state != .tripped,
                                           reclose := (if r.state = .tripped then none else q.reclose) }).sectionNotice x
    let u := if r.state = .unknown ∨ new = .unknown then t.updateReadiness else t
    let v := if new = .unknown ∧ (r.seq.map (·.running)) = some none then abandonSeq x u else u
    let w := if r.state = .energised then cancelCloses x (fun c => c.origin == .operator)
        (forEach into (fun p y => addPlatformHold p (.power x) y) v) else v
    let y := startCommands (if new = .held ∨ new = .isolating then cancelCloses x (fun _ => true) w else w)
    let z := if r.state = .held ∨ new = .held then y.reportHeld else y
    changeSection x new s = if new = .energised then reoffer x (forEach into (fun p k => removePlatformHold p (.power x) k) z) else z) ∧
  (∀ s : State,
    let n := (s.tpc.sections.filter fun r => r.state == .held).length
    let t := { s with lmc.heldCount := n }
    ((0 < n ↔ 0 < s.lmc.heldCount) → s.reportHeld = t) ∧ (¬ (0 < n ↔ 0 < s.lmc.heldCount) → s.reportHeld = t.notice .mode t.modeSummary) ∧
    ∀ x p, p ∈ s.desc.platformsInto x ↔ p ∈ s.desc.platforms ∧ ∃ g, s.desc.nextSegment? p = some g ∧ s.desc.sectionOf? g = some x)

/-- The timers of grants, sections and breakers: START_WINDOW_EXPIRY, REGENERATION_WINDOW_EXPIRY, SELECT_WINDOW_EXPIRY,
OPERATE_LIMIT_EXPIRY, RECLOSE_DELAY_EXPIRY, LOCKOUT_SPAN_EXPIRY, VOLTAGE_CONFIRM_EXPIRY and ISOLATION_CONFIRM_EXPIRY. Each acts when the
count has come to its value, or passed it (log 2), and otherwise changes nothing (log 1). SELECT_WINDOW_EXPIRY takes the first command of
the breaker in the queue whose window is over, wherever it stands. What they leave: a grant that is released is gone, an ISSUED authority
of its train is revoked, and an ENERGISED section is offered again, in the order of R86, earliest target mark first and then the lower
platform; so a train under a hold has neither grant nor ISSUED authority. A sequence that fails has OPENs placed for the breakers it
closed, of origin SEQUENCE (log 34), and leaves its section DEAD, or UNKNOWN when the voltage is, with no entry and no span and the
outcome recorded, and no other section's state changes. An isolation that fails is gone, its open permits that were not yet recorded ENDED
with the outcome and the line time, and the section takes its state. A command whose window is over ends LAPSED, and a CANCEL_SELECT is
posted where there is room, after the OPERATE of a SELECTED one has been withdrawn. A move that ends gives the breaker its state and the
outcome, reported with its origin; an OPEN breaker is taken off what an isolation waits for. The order of a command's end, its report and
what is posted is logs 10 and 70. An automatic reclose is allowed where the section is described so, without an open permit or a claim,
outside SURVEY. A sequence that is abandoned has left its section, with the span of a RECLOSE one, and its CLOSE is cancelled. -/
def Obligations.PowerTimersExpire : Prop :=
  (∀ (n : Nat) (s : State),
    (s.grant? n = none → exec (.startWindowExpiry n) s = .next s) ∧
    (∀ g, s.grant? n = some g →
      (s.lmc.count < g.expiry → exec (.startWindowExpiry n) s = .next s) ∧
      (g.expiry ≤ s.lmc.count → exec (.startWindowExpiry n) s = .next (releaseGrant n s).conclude))) ∧
  (∀ (x : Nat) (s : State),
    (s.sec? x = none → exec (.regenerationWindowExpiry x) s = .next s ∧ exec (.lockoutSpanExpiry x) s = .next s ∧
      exec (.recloseDelayExpiry x) s = .next s ∧ exec (.voltageConfirmExpiry x) s = .next s) ∧
    (∀ r, s.sec? x = some r →
      ((∀ e, r.window = some e → s.lmc.count < e) → exec (.regenerationWindowExpiry x) s = .next s) ∧
      (∀ e, r.window = some e → e ≤ s.lmc.count → exec (.regenerationWindowExpiry x) s =
        .next (s.modSec x fun q => { q with window := none }).conclude) ∧
      ((∀ e, r.span = some e → s.lmc.count < e) → exec (.lockoutSpanExpiry x) s = .next s) ∧
      (∀ e, r.span = some e → e ≤ s.lmc.count → exec (.lockoutSpanExpiry x) s =
        .next (s.modSec x fun q => { q with span := none }).conclude) ∧
      ((∀ e, r.reclose = some e → s.lmc.count < e) → exec (.recloseDelayExpiry x) s = .next s) ∧
      (∀ e, r.reclose = some e → e ≤ s.lmc.count →
        let t := s.modSec x fun q => { q with reclose := none }
        (r.state = .tripped → r.lockout = false → r.seq = none → t.recloseAllowed x = true →
          exec (.recloseDelayExpiry x) s = .next (placeSeq x .reclose t).conclude) ∧
        (r.state ≠ .tripped ∨ r.lockout = true ∨ r.seq ≠ none ∨ t.recloseAllowed x = false →
          exec (.recloseDelayExpiry x) s = .next t.conclude)) ∧
      ((∀ q e, r.seq = some q → q.running = some (.confirm e) → s.lmc.count < e) → exec (.voltageConfirmExpiry x) s = .next s) ∧
      (∀ q e, r.seq = some q → q.running = some (.confirm e) → e ≤ s.lmc.count →
        exec (.voltageConfirmExpiry x) s = .next (failSeq x .failedVoltage s).conclude))) ∧
  (∀ (x : Nat) (s : State),
    (s.isolation? x = none → exec (.isolationConfirmExpiry x) s = .next s) ∧
    (∀ i, s.isolation? x = some i →
      ((∀ e, i.phase = .confirming e → s.lmc.count < e) → exec (.isolationConfirmExpiry x) s = .next s) ∧
      (∀ e, i.phase = .confirming e → e ≤ s.lmc.count →
        let t := failIsolation x (.failedVoltage (s.voltage x)) s
        (s.voltage x = .present →
          exec (.isolationConfirmExpiry x) s = .next (powerRaise .powerDiscrepancy 3 x t).conclude) ∧
        (s.voltage x ≠ .present → exec (.isolationConfirmExpiry x) s = .next t.conclude)))) ∧
  (∀ (b : Nat) (s : State),
    ((∀ c ∈ s.tpc.queue, c.breaker = b → ∀ e, c.window = some e → s.lmc.count < e) →
      exec (.selectWindowExpiry b) s = .next s) ∧
    (∀ p c q e, s.tpc.queue = p ++ c :: q → (∀ d ∈ p, d.breaker = b → ∀ m, d.window = some m → s.lmc.count < m) →
      c.breaker = b → c.window = some e → e ≤ s.lmc.count →
      exec (.selectWindowExpiry b) s = .next (selectWindowExpire c s).conclude) ∧
    ((∀ t e o, s.brkState? b = some (.moving t e o) → s.lmc.count < e) → exec (.operateLimitExpiry b) s = .next s) ∧
    (∀ t e o, s.brkState? b = some (.moving t e o) → e ≤ s.lmc.count → exec (.operateLimitExpiry b) s =
      .next (recomputeBudgets (ascending (s.desc.sectionsFed b))
        (takeReports (endMove b t o .unknown .noResult s))).conclude)) ∧
  (∀ (n : Nat) (s : State),
    (s.grant? n = none → releaseGrant n s = s) ∧
    (∀ g, s.grant? n = some g →
      let t := revoke n { s with tpc.grants := s.tpc.grants.filter (·.train != n) }
      releaseGrant n s = if t.secState? g.sec = some .energised then reoffer g.sec t else t)) ∧
  (∀ (n : Nat) (t : Train) (s : State), s.train? n = some t → t.holds ≠ [] →
    (releaseGrant n s).grant? n = none ∧
    (s.grant? n ≠ none → ∀ q a, (releaseGrant n s).train? n = some q → q.authority = some a → a.state ≠ .issued)) ∧
  (∀ (x : Nat) (s : State), Keyed s →
    (∀ n, n ∈ s.waitingTrains ↔ ∃ c, (s.train? n).bind (·.call) = some c ∧ c.phase = .waiting) ∧
    (∀ n, n ∈ s.waitingInto x ↔
      ∃ c, (s.train? n).bind (·.call) = some c ∧ c.phase = .waiting ∧ s.sectionAhead? c.platform = some x) ∧
    s.waitingTrains.Pairwise (fun m n => ∀ a b, (s.train? m).bind (·.call) = some a → (s.train? n).bind (·.call) = some b →
      a.target < b.target ∨ (a.target = b.target ∧ a.platform ≤ b.platform)) ∧
    (s.waitingInto x).Sublist s.waitingTrains ∧ reoffer x s = evaluateMany (s.waitingInto x) s) ∧
  (∀ (x : Nat) (o : SeqOutcome) (s : State),
    ((s.sec? x).bind (·.seq) = none → failSeq x o s = s) ∧
    (∀ r e, s.sec? x = some r → r.seq = some e →
      let t := changeSection x (if r.voltage = .unknown then .unknown else .dead) (forEach e.closed (fun b u => placeOpen b .sequence u) s)
      failSeq x o s = ((t.modSec x fun q => { q with span := none }).modSec x
        fun q => { q with seq := none, lastSeq := some o }).sectionNotice x)) ∧
  (∀ (x : Nat) (o : SeqOutcome) (r : SecRec) (e : SeqEntry) (s : State), s.sec? x = some r → r.seq = some e →
    (∃ q, (failSeq x o s).sec? x = some q ∧ q.state = (if r.voltage = .unknown then .unknown else .dead) ∧ q.seq = none ∧
      q.lastSeq = some o ∧ q.span = none) ∧
    ∀ y, y ≠ x → (failSeq x o s).secState? y = s.secState? y) ∧
  (∀ (x : Nat) (o : PermitOutcome) (s : State),
    (s.isolation? x = none → failIsolation x o s = s) ∧
    (∀ i, s.isolation? x = some i → failIsolation x o s =
      afterPermit x (forEach (((s.openPermits x).filter fun p => p.state == .requested || p.state == .isolating).map (·.id))
        (fun id t => endPermit id o t) { s with tpc.isolations := s.tpc.isolations.filter (·.sec != x) })) ∧
    (∀ xs b out, failWaiting xs b out s = forEach xs (fun y t => failIsolation y (.failedBreaker b out) t) s)) ∧
  (∀ (x : Nat) (o : PermitOutcome) (i : Isolation) (s : State), (s.tpc.permits.map (·.id)).Nodup → s.isolation? x = some i →
    (failIsolation x o s).isolation? x = none ∧
    (failIsolation x o s).tpc.permits = s.tpc.permits.map fun p =>
      if p.sec = x ∧ (p.state = .requested ∨ p.state = .isolating) then
        { p with state := .ended, outcome := some o, ended := some s.lmc.lineTime }
      else p) ∧
  (∀ (c : Cmd) (s : State),
    let number := s.breakerNumber c.breaker
    let t := takeReports (endCmd c .lapsed s)
    let u := if c.phase = .selected then (withdrawFrame (isOperateOf c number) t).2 else t
    selectWindowExpire c s = cancelSelect c.unit number c.code u ∧
    (∀ unit b code,
      (s.wlc.outQueue.length < 32 → ∃ f ∈ (cancelSelect unit b code s).wlc.outQueue, f.dest = unit ∧ f.body = .cancelSelect b code) ∧
      (32 ≤ s.wlc.outQueue.length → cancelSelect unit b code s = s))) ∧
  (∀ (b : Nat) (s : State),
    (setBreaker b .opened s).tpc.isolations = s.tpc.isolations.map (fun i => match i.phase with
      | .opening w => { i with phase := .opening (w.filter (· != b)) }
      | _ => i) ∧
    (∀ st r, s.brk? b = some r → (setBreaker b st s).brk? b = some { r with state := st })) ∧
  (∀ (b : Nat) (target : Position) (o : CmdOrigin) (st : BreakerState) (out : CmdOutcome) (s : State),
    let t := setBreaker b st s
    let u := endMove b target o st out s
    u.tpc.reports = s.tpc.reports ++ [{ breaker := b, action := if target = .opened then .opening else .closing, origin := o,
                                         outcome := out, waiting := t.waitingOn b }] ∧
    (∀ r, s.brk? b = some r → u.brk? b = some { r with state := st, outcome := some out }) ∧
    u.tpc.isolations = t.tpc.isolations ∧ u.tpc.queue = s.tpc.queue ∧ u.tpc.sections = s.tpc.sections) ∧
  (∀ (x : Nat) (s : State),
    (s.recloseAllowed x = true ↔ (∃ d, s.desc.section? x = some d ∧ d.autoReclose = true) ∧ s.permitOpen x = false ∧
      (∃ r, s.sec? x = some r ∧ r.claims = []) ∧ s.lmc.mode ≠ .survey) ∧
    ((s.sec? x).bind (·.seq) = none → abandonSeq x s = s) ∧
    (∀ e, (s.sec? x).bind (·.seq) = some e →
      let t := removeSeq x .abandoned s
      let u := if e.origin = .reclose then t.modSec x fun r => { r with span := none } else t
      (∀ b, e.running = some (.command b) → abandonSeq x s = cancelClose b u) ∧
      ((∀ b, e.running ≠ some (.command b)) → abandonSeq x s = u)) ∧
    (∀ o, removeSeq x o s = (s.modSec x fun r => { r with seq := none, lastSeq := some o }).sectionNotice x))

/-! ### Permits -/

/-- PERMIT_REQUEST, PERMIT_CANCEL and PERMIT_SURRENDER, with their refusals in order: a permit is made for a section whose state is known,
while the section has fewer than 4 open ones, the table fewer than 16, and no train or unidentified occupancy stands there; a permit not
yet recorded is ended CANCELLED; the holder of an ISSUED one surrenders it, and its erase is placed. What each leaves: a permit that is
made stands in the table with its place, section, holder and time, in the state its section gives it, with its write placed or its
isolation begun in CLEARING on an ISOLATING section; one that ends is ENDED with its outcome and time; the isolation of a section with no
permit left to isolate is gone; and a section left without an open permit is HELD by the night hold, or DEAD, unless it is HELD. Its
section gives it by the table of R122: with an isolation under way the permit joins it, REQUESTED in CLEARING and ISOLATING after it;
otherwise an ENERGISED, ENERGISING, DEAD or TRIPPED section begins one and becomes ISOLATING, an ISOLATING or ISOLATED one has the permit
recorded, and a HELD one too when a permit is open there, or begins one as HELD. The permit takes the lowest free place, or with none free
that of the earliest ENDED permit, which is dropped (earliest: log 22). In CLEARING an isolation waits until no grant is out in the
section and no train and no unidentified occupancy stands there; then its permits become ISOLATING and an OPEN is placed for each of its
breakers not OPEN; with none of those awaited left it waits, to a count 10 s on, for the absence of the voltage, which ends it and has
each of its permits RECORDING with its write placed. One stopped in CLEARING places the OPENs too. -/
def Obligations.PermitsRequestedAndEnded : Prop :=
  (∀ (tag : Nat) (o h : Option Nat) (s : State), due (.permitRequest tag o h) s →
    (¬ given 0 23 o → badlyFilled (.permitRequest tag o h) tag "section" s) ∧
    (given 0 23 o → ¬ given 1 65535 h → badlyFilled (.permitRequest tag o h) tag "holder_code" s) ∧
    (∀ x k, o = some x → h = some k → x ≤ 23 → 1 ≤ k → k ≤ 65535 →
      (s.sec? x = none → refusedWith (.permitRequest tag o h) tag .notFound [] s) ∧
      (∀ r, s.sec? x = some r →
        (s.lmc.mode = .survey → refusedWith (.permitRequest tag o h) tag .mode [] s) ∧
        (s.lmc.mode ≠ .survey → r.state = .unknown → refusedWith (.permitRequest tag o h) tag .state [] s) ∧
        (s.lmc.mode ≠ .survey → r.state ≠ .unknown →
          (4 ≤ (s.openPermits x).length ∨ 16 ≤ s.allOpenPermits.length →
            refusedWith (.permitRequest tag o h) tag .full [] s) ∧
          ((s.openPermits x).length < 4 → s.allOpenPermits.length < 16 →
            (s.blockedSegments x ≠ [] → refusedFor (.permitRequest tag o h) tag .trainsPresent s) ∧
            (∀ n t, s.blockedSegments x = [] → s.permitPlace = some (n, t) →
              ∃ f, accepted (.permitRequest tag o h) tag s
                (makePermit (s.permitCase r) n (nextId 255 (t.tpc.permits.map (·.id)) t.tpc.permitLast) x k t).conclude f)))))) ∧
  (∀ s : State, s.tpc.permits.length < 16 → ∃ n, n < 16 ∧ s.permitPlace = some (n, s) ∧ ∀ p ∈ s.tpc.permits, p.place ≠ n) ∧
  (∀ (tag : Nat) (i : Option Nat) (s : State), due (.permitCancel tag i) s →
    (¬ given 1 255 i → badlyFilled (.permitCancel tag i) tag "id" s) ∧
    (∀ n, i = some n → 1 ≤ n → n ≤ 255 →
      (s.permit? n = none → refusedWith (.permitCancel tag i) tag .notFound [] s) ∧
      (∀ p, s.permit? n = some p →
        (p.state ≠ .requested → p.state ≠ .isolating → refusedWith (.permitCancel tag i) tag .state [] s) ∧
        (p.state = .requested ∨ p.state = .isolating → ∃ f, accepted (.permitCancel tag i) tag s
          (afterPermit p.sec (stopIsolation p.sec (endPermit n .cancelled s))).conclude f)))) ∧
  (∀ (tag : Nat) (i h : Option Nat) (s : State), due (.permitSurrender tag i h) s →
    (¬ given 1 255 i → badlyFilled (.permitSurrender tag i h) tag "id" s) ∧
    (given 1 255 i → ¬ given 1 65535 h → badlyFilled (.permitSurrender tag i h) tag "holder_code" s) ∧
    (∀ n k, i = some n → h = some k → 1 ≤ n → n ≤ 255 → 1 ≤ k → k ≤ 65535 →
      (s.permit? n = none → refusedWith (.permitSurrender tag i h) tag .notFound [] s) ∧
      (∀ p, s.permit? n = some p →
        (k ≠ p.holder → refusedWith (.permitSurrender tag i h) tag .holder [] s) ∧
        (k = p.holder → p.state ≠ .issued → refusedWith (.permitSurrender tag i h) tag .state [] s) ∧
        (k = p.holder → p.state = .issued → ∃ f, accepted (.permitSurrender tag i h) tag s
          ((setPermit n (fun q => { q with state := .surrendering, store := .erasing, eraseFailed := false }) s).placePermitOp
            (.permitErase p.place)).conclude f)))) ∧
  (∀ (c : PermitCase) (place id x holder : Nat) (s : State), s.sec? x ≠ none →
    (∀ p ∈ s.tpc.permits, p.id ≠ id ∧ p.place ≠ place) →
    let u := makePermit c place id x holder s
    ∃ p, u.permit? id = some p ∧ p.place = place ∧ p.sec = x ∧ p.holder = holder ∧ p.requested = s.lmc.lineTime ∧
      u.tpc.permitLast = id ∧ (∀ q ∈ s.tpc.permits, q ∈ u.tpc.permits) ∧
      (c = .record → p.state = .recording ∧ p.store = .writing ∧ .permitWrite (recordOf p) ∈ permitOperations u) ∧
      (∀ st, c = .join st → p.state = st ∧ p.store = .absent) ∧
      (∀ isolate, c = .begin_ isolate → p.state = .requested ∧ p.store = .absent ∧
        u.isolation? x = some { sec := x, phase := .clearing } ∧
        u.secState? x = if isolate then some .isolating else s.secState? x)) ∧
  (∀ (n : Nat) (o : PermitOutcome) (p : Permit) (s : State), s.permit? n = some p →
    (endPermit n o s).permit? n = some { p with state := .ended, outcome := some o, ended := some s.lmc.lineTime }) ∧
  (∀ (x : Nat) (i : Isolation) (s : State), s.isolation? x = some i →
    ((∃ p ∈ s.openPermits x, p.isolated = true) → stopIsolation x s = s) ∧
    ((∀ p ∈ s.openPermits x, p.isolated = false) → (stopIsolation x s).isolation? x = none ∧
      (stopIsolation x s).tpc.permits = s.tpc.permits ∧ ∀ y, y ≠ x → (stopIsolation x s).isolation? y = s.isolation? y)) ∧
  (∀ (x : Nat) (r : SecRec) (s : State), s.sec? x = some r →
    let u := afterPermit x s
    (s.permitOpen x = true ∨ r.state = .held → u = s) ∧
    (s.permitOpen x = false → r.state ≠ .held → u.tpc.permits = s.tpc.permits ∧
      u.secState? x = (if s.lmc.mode = .nightHeld ∧ s.keepLive x = false then some .held else some .dead) ∧
      ∀ y, y ≠ x → u.secState? y = s.secState? y)) ∧
  (∀ (r : SecRec) (s : State),
    (∀ i, s.isolation? r.index = some i →
      s.permitCase r = .join (if i.phase = .clearing then .requested else .isolating)) ∧
    (s.isolation? r.index = none →
      (r.state = .energised ∨ r.state = .energising ∨ r.state = .dead ∨ r.state = .tripped → s.permitCase r = .begin_ true) ∧
      (r.state = .isolating ∨ r.state = .isolated → s.permitCase r = .record) ∧
      (r.state = .held → s.permitCase r = if s.permitOpen r.index = true then .record else .begin_ false))) ∧
  (∀ (i : Isolation) (s : State),
    (i.phase = .clearing → (s.sectionClear i.sec = true → isolationMove? s i = some (enterOpening i.sec s)) ∧
      (s.sectionClear i.sec = false → isolationMove? s i = none)) ∧
    (∀ w, i.phase = .opening w →
      (w = [] → isolationMove? s i = some (s.modIsolation i.sec fun j => { j with phase := .confirming (s.lmc.count + 10) })) ∧
      (w ≠ [] → isolationMove? s i = none)) ∧
    (∀ e, i.phase = .confirming e → (s.voltage i.sec = .absent → isolationMove? s i = some (succeedIsolation i.sec s)) ∧
      (s.voltage i.sec ≠ .absent → isolationMove? s i = none)) ∧
    (∀ x, s.sectionClear x = true ↔ (∀ g ∈ s.tpc.grants, g.sec ≠ x) ∧
      (∀ t ∈ s.trk.trains, s.desc.sectionOf? t.head ≠ some x ∧ ∀ g, t.tail = some g → s.desc.sectionOf? g ≠ some x) ∧
      ∀ g ∈ s.desc.segmentsIn x, s.occ g ≠ .unidentified)) ∧
  (∀ (x : Nat) (s : State),
    let ids := ((s.openPermits x).filter fun p => p.state == .requested).map (·.id)
    ∃ u, enterOpening x s = placeOpens x .isolation u ∧
      u.tpc.permits = s.tpc.permits.map (fun p => if p.id ∈ ids then { p with state := .isolating } else p) ∧
      u.tpc.isolations = s.tpc.isolations.map (fun i => if i.sec = x then
        { i with phase := .opening ((s.desc.breakersOf x).filter fun b => !s.brkOpen b) } else i) ∧
      (∀ b o, placeOpens x o s = forEach ((s.desc.breakersOf x).filter fun b => !s.brkOpen b) (fun b t => placeOpen b o t) s ∧
        (b ∈ (s.desc.breakersOf x).filter (fun b => !s.brkOpen b) ↔ b ∈ s.desc.breakersOf x ∧ s.brkState? b ≠ some .opened))) ∧
  (∀ (x : Nat) (p : Permit) (s : State),
    succeedIsolation x s = forEach ((s.openPermits x).filter fun p => p.state == .isolating) recordPermit
      { s with tpc.isolations := s.tpc.isolations.filter (·.sec != x) } ∧
    (recordPermit p s).tpc.permits = s.tpc.permits.map (fun q => if q.id = p.id then { q with state := .recording, store := .writing } else q) ∧
    (recordPermit p s).clp.flags.get .permit = true ∧
    (recordPermit p s).lst = ({ s with lst.permitList := s.lst.permitList ++ [StoreOp.permitWrite
      { place := p.place, id := p.id, sec := p.sec, holder := p.holder, requested := p.requested }] }.startOp).lst) ∧
  (∀ s : State,
    let taken := fun n => ∃ p ∈ s.tpc.permits, p.place = n
    let age := fun p : Permit => (p.ended.map s.offset).getD 0
    (∀ n, n < 16 → ¬ taken n → (∀ m, m < n → taken m) → s.permitPlace = some (n, s)) ∧
    ((∀ n, n < 16 → taken n) →
      ((∀ p ∈ s.tpc.permits, p.state ≠ .ended) → s.permitPlace = none) ∧
      (∀ a p b, s.tpc.permits = a ++ p :: b → p.state = .ended → (∀ q ∈ a, q.state = .ended → age p < age q) →
        (∀ q ∈ b, q.state = .ended → age p ≤ age q) →
        s.permitPlace = some (p.place, { s with tpc.permits := s.tpc.permits.filter (·.place != p.place) })))) ∧
  (∀ (x : Nat) (i : Isolation) (s : State), s.isolation? x = some i → (∀ p ∈ s.openPermits x, p.isolated = false) →
    let t := { s with tpc.isolations := s.tpc.isolations.filter (·.sec != x) }
    (i.phase = .clearing → stopIsolation x s = placeOpens x .isolation t) ∧ (i.phase ≠ .clearing → stopIsolation x s = t))

/-! ### Incidents -/

/-- RESPONSE_SET, INCIDENT_RAISE and INCIDENT_RETIRE: an entry whose every field is given has its write at the end of the other list; a
raise of the host is taken as any raise, with its note code; a CLOSED record leaves the table. Each has its refusals: of a set and of a
raise, the first field that is absent or out of range (the names of the fields are of log 4). -/
def Obligations.ResponsesAndRaises : Prop :=
  (∀ (tag : Nat) (f : ResponseFields) (s : State), due (.responseSet tag f) s →
    (∀ name, firstAtFault (responseTests f) = some name → badlyFilled (.responseSet tag f) tag name s) ∧
    (∀ (c : IncClass) (v : Nat) (e : Response), 1 ≤ v → v ≤ 4 → e.upstream ≤ 3 → fits 0 255 e.template →
      f = { cls := some c, severity := some v, upstream := some e.upstream, inPlace := some e.inPlace,
            deenergise := some e.deenergise,
            template := some (e.template.elim .none .one),
            priority := some e.priority, scope := some e.scope, escalate := some e.escalate, allClear := some e.allClear } →
      (4 ≤ s.lst.otherList.length → refusedWith (.responseSet tag f) tag .storeBusy [] s) ∧
      (s.lst.otherList.length < 4 → ∃ g, accepted (.responseSet tag f) tag s
        (State.startOp { s with lst.otherList := s.lst.otherList ++ [.responseWrite c v e] }).conclude g))) ∧
  (∀ (tag : Nat) (c : Option IncClass) (v : Option Nat) (l : Option Location) (n : Option Nat) (s : State),
    due (.incidentRaise tag c v l n) s →
    (∀ name, firstAtFault (raiseTests c v l n) = some name → badlyFilled (.incidentRaise tag c v l n) tag name s) ∧
    (∀ d k w, c = some d → v = some k → l = some w → 1 ≤ k → k ≤ 4 → locationInRange w = true → fits 1 65535 n →
      (locationKnown s.desc w = false → refusedFor (.incidentRaise tag c v l n) tag .notFound s) ∧
      (locationKnown s.desc w = true →
        let q := raiseIncident d k w .operator s
        ∃ f, accepted (.incidentRaise tag c v l n) tag s (noteRaise q.1 n q.2).conclude f))) ∧
  (∀ (tag : Nat) (o : Option Nat) (s : State), due (.incidentRetire tag o) s →
    (¬ given 1 65535 o → badlyFilled (.incidentRetire tag o) tag "id" s) ∧
    (∀ n, o = some n → 1 ≤ n → n ≤ 65535 →
      (s.incident? n = none → refusedWith (.incidentRetire tag o) tag .notFound [] s) ∧
      (∀ i, s.incident? n = some i →
        (i.phase ≠ .closed → refusedWith (.incidentRetire tag o) tag .state [] s) ∧
        (i.phase = .closed → ∃ l, accepted (.incidentRetire tag o) tag s
          (State.notice .incident l { s with inm.incidents := s.inm.incidents.filter (·.id != n) }) []))))

/-- A raise with no open incident of its class and location makes a record at the end of the table, when there is room or in place of the
oldest CLOSED record: RAISED with count 1, its class, severity, location and origin, and its escalation timer; the links are those that
applying its response records. With the table full of open incidents it is dropped, and the drop record takes it. A repeat makes no
record: the record there counts it, takes its time, and the higher severity with a new timer while it is RAISED. What applying a response
leaves, by the entry for the class and severity: its reason in the hold set of each upstream platform, unless the incident is CONTAINED,
and of each train in place; its claim on each section of the location, DEAD unless it was ISOLATING, ISOLATED or HELD; its announcement
ACTIVE, repeated every 120 s over the scope, when the table has room, and those linked before withdrawn; the mode as an escalation request
leaves it; and each action among the links or counted as unlinked. An entry with the empty values leaves everything as it was. An upstream
platform is one that a walk upstream from a segment of the location meets, or whose next segment is in a section of the location (that the
segment a walk starts from is not counted as visited is log 34). What a location resolves to, by the table of R135: LINE and a location
that the description does not have, nothing; a segment or a station's platform segments, those as start, their sections, and the trains
with their head there; a section, its segments whose predecessor is absent or outside it as start, itself, the trains with their head in
it, and the stations with a platform segment there; a unit, what its station, its segments or its sections do. A segment's station is that
of its own platform, or else those of the first platforms met along its successors and along its predecessors. -/
def Obligations.RaisesTaken : Prop :=
  (∀ (k : Nat) (i : Incident) (s : State), Keyed s → (s.ans.entries.map (·.id)).Nodup → s.incident? k = some i →
    let e := responseEntry s.inm.responses i.cls i.severity
    let r := resolve s.desc i.location
    let above := if i.phase = .contained then [] else upstreamPlatforms s.desc e.upstream r
    let there := if e.inPlace then (s.trk.trains.filter fun t => r.heads.contains t.head).map (·.number) else []
    let dark := if e.deenergise then r.sections else []
    let t := applyResponse k s
    (e = Response.empty → t = s) ∧
    (∀ p ∈ above, s.plat? p ≠ none → .incident k ∈ t.platHolds p) ∧
    (∀ n ∈ there, ∃ q, t.train? n = some q ∧ .incident k ∈ q.holds) ∧
    (∀ x ∈ dark, ∀ q, s.sec? x = some q → ∃ w, t.sec? x = some w ∧ k ∈ w.claims ∧
      w.state = if q.state = .isolating ∨ q.state = .isolated ∨ q.state = .held then q.state else .dead) ∧
    (∀ n, e.template = some n →
      let scope := (ascending (if e.scope = .location ∧ r.stations ≠ [] then r.stations else s.desc.stations.map (·.index))).filter
        fun st => (s.desc.station? st).isSome
      (scope ≠ [] → s.ans.entries.length < 48 → ∃ w ∈ t.ans.entries, w.id = t.ans.lastId ∧ w.origin = .incident k ∧
        w.template = n ∧ w.priority = e.priority ∧ w.rep = .continuous ∧ w.interval = some 120 ∧ w.expiry = none ∧
        w.display = true ∧ w.withdrawing = none ∧ w.station = r.stations.head? ∧ w.train = (s.inPlace r).head? ∧
        w.deliveries.map (·.station) = scope) ∧
      (scope ≠ [] → s.ans.entries.length < 48 → ∀ w ∈ s.ans.entries, .announce w.id ∈ i.links → w.origin = .incident k →
        ∀ v ∈ t.ans.entries, v.id = w.id → v.withdrawing ≠ none ∨ v.id = t.ans.lastId)) ∧
    (if e.escalate then t.lmc.mode = (match s.lmc.mode with
        | .nightHeld => .nightLive
        | .reduced => if s.lmc.escalation then .traffic else .reduced
        | m => m) else t.lmc.mode = s.lmc.mode) ∧
    ∃ j, t.incident? k = some j ∧ j = { i with links := j.links, unlinked := j.unlinked } ∧
      ∀ a, (∃ p ∈ above, a = .holdPlatform p) ∨ (∃ n ∈ there, a = .holdTrain n) ∨ (∃ x ∈ dark, a = .deenergise x) ∨
        (e.escalate = true ∧ a = .escalate) → a ∈ j.links ∨ i.unlinked < j.unlinked ∨ 255 ≤ j.unlinked) ∧
  (∀ (d : Description) (n : Nat) (r : Reach) (p : Nat), p ∈ upstreamPlatforms d n r ↔
    n ≠ 0 ∧ ((∃ g ∈ r.starts, metUpstream d n g p) ∨ ∃ x ∈ r.sections, p ∈ d.platformsInto x)) ∧
  (∀ (d : Description) (l : Location),
    let r := resolve d l
    (locationKnown d l = false ∨ l = .line → r = Reach.empty) ∧
    (∀ st, l = .station st → d.station? st ≠ none →
      reachesSegments d ((d.segments.filter fun x => x.platform.any (· / 2 == st)).map (·.index)) r ∧ r.stations = [st]) ∧
    (∀ x, l = .powerSection x → d.section? x ≠ none → reachesSections d [x] r) ∧
    (∀ a u, l = .unit a → d.unit? a = some u →
      (∀ st, u.kind = .station → d.unitStation? a = some st → r = resolve d (.station st)) ∧
      (u.kind = .station → d.unitStation? a = none → r = Reach.empty) ∧
      (u.kind = .track → reachesSegments d (d.unitSegments a) r ∧ rising r.stations ∧
        ∀ st, st ∈ r.stations ↔ ∃ g ∈ d.unitSegments a, st ∈ (resolve d (.segment g)).stations) ∧
      (u.kind = .power → reachesSections d (d.unitSections a) r))) ∧
  (∀ (d : Description) (g : Nat) (x : Segment), d.segment? g = some x →
    let r := resolve d (.segment g)
    reachesSegments d [g] r ∧ rising r.stations ∧
    ∀ st, st ∈ r.stations ↔ (∃ p, x.platform = some p ∧ st = p / 2) ∨
      (x.platform = none ∧ ∃ p, st = p / 2 ∧
        (metFirst d (fun i => (d.segment? i).bind (·.successor)) g p ∨ metFirst d d.predecessor? g p))) ∧
  (∀ (s : State) (r : Reach) (n : Nat), n ∈ s.inPlace r ↔ ∃ t ∈ s.trk.trains, t.number = n ∧ t.head ∈ r.heads) ∧
  ∀ (c : IncClass) (v : Nat) (l : Location) (o : RaiseOrigin) (s : State),
    let u := raised c v l o s
    let makes := fun before : List Incident =>
      ∃ j : Incident, u.inm.incidents = before ++ [j] ∧
        (raiseIncident c v l o s).1 = .made j.id ∧ u.inm.lastId = j.id ∧
        j = { id := nextId 65535 (before.map (·.id)) s.inm.lastId, cls := c, severity := v, location := l, phase := .raised,
              origin := o, count := 1, links := j.links, unlinked := j.unlinked, note := none,
              escalation := some (s.lmc.count + s.inm.periods.get c), raisedAt := s.lmc.lineTime, lastAt := s.lmc.lineTime,
              ackAt := none, containedAt := none, closedAt := none, cause := none }
    (∀ i, s.openIncident? c l = some i → (raiseIncident c v l o s).1 = .repeated i.id ∧
      u.inm.incidents.map (·.id) = s.inm.incidents.map (·.id) ∧
      (s.incident? i.id = some i → ∃ j, u.incident? i.id = some j ∧
        j = { i with count := if i.count < 255 then i.count + 1 else 255, lastAt := s.lmc.lineTime, severity := max i.severity v,
                     escalation := if i.severity < v ∧ i.phase = .raised then some (s.lmc.count + s.inm.periods.get i.cls)
                                   else i.escalation,
                     links := j.links, unlinked := j.unlinked })) ∧
    (s.openIncident? c l = none → s.inm.incidents.length < 32 → makes s.inm.incidents) ∧
    (∀ old, s.openIncident? c l = none → s.inm.incidents.length = 32 → s.inm.incidents.find? (·.phase == .closed) = some old →
      makes (s.inm.incidents.filter (·.id != old.id))) ∧
    (s.openIncident? c l = none → 32 ≤ s.inm.incidents.length → (∀ i ∈ s.inm.incidents, i.phase ≠ .closed) →
      (raiseIncident c v l o s).1 = .dropped ∧ u.inm.incidents = s.inm.incidents ∧
      u.inm.drops = (if s.inm.drops < 65535 then s.inm.drops + 1 else 65535) ∧
      u.inm.lastDrop = some { cls := c, location := l, time := s.lmc.lineTime })

/-- INCIDENT_ACK, INCIDENT_CONTAIN, INCIDENT_CLOSE, INCIDENT_RELEASE and ESCALATION_EXPIRY, with their refusals: an incident goes from
RAISED to ACKNOWLEDGED, its escalation timer stopped, to CONTAINED, its linked upstream holds lifted, and to CLOSED; one action of an open
one is lifted with its link; while it is RAISED, its timer's expiry, at its count or after it (log 2), raises its severity below 4 by one,
and its response is applied again; early, without a record or out of RAISED the expiry changes nothing (log 1). What each leaves: a
contained incident CONTAINED with its time, its upstream holds off the platforms they were linked to and no other platform's holds
changed; a closed one CLOSED with its time and cause and without links or timer, its reason in no hold set, its claim on no section, and
no entry of its origin ACTIVE. What a release lifts: the action and the index give one link in range, of a platform, a train, a section or
an entry; the INCIDENT reason is out of the hold set of that platform or train, and no other reason or hold set changes; the id is out of
the section's claims; the entry, if it is of that incident's origin, is withdrawn. The names of the fields, action= and the one index= for
the four kinds, are the model's choice (log 4). -/
def Obligations.IncidentsSteered : Prop :=
  (∀ (tag : Nat) (o n : Option Nat) (s : State), due (.incidentAck tag o n) s →
    (¬ given 1 65535 o → badlyFilled (.incidentAck tag o n) tag "id" s) ∧
    (given 1 65535 o → ¬ fits 1 65535 n → badlyFilled (.incidentAck tag o n) tag "note_code" s) ∧
    (∀ k, o = some k → 1 ≤ k → k ≤ 65535 → fits 1 65535 n →
      (s.incident? k = none → refusedWith (.incidentAck tag o n) tag .notFound [] s) ∧
      (∀ i, s.incident? k = some i →
        (i.phase ≠ .raised → refusedWith (.incidentAck tag o n) tag .state [] s) ∧
        (i.phase = .raised → ∃ l f, accepted (.incidentAck tag o n) tag s (State.notice .incident l
          (s.modIncident k fun j => { j with phase := .acknowledged, escalation := none, ackAt := some s.lmc.lineTime,
                                             note := n.or j.note })) f)))) ∧
  (∀ (tag : Nat) (o n : Option Nat) (s : State), due (.incidentContain tag o n) s →
    (¬ given 1 65535 o → badlyFilled (.incidentContain tag o n) tag "id" s) ∧
    (given 1 65535 o → ¬ fits 1 65535 n → badlyFilled (.incidentContain tag o n) tag "note_code" s) ∧
    (∀ k, o = some k → 1 ≤ k → k ≤ 65535 → fits 1 65535 n →
      (s.incident? k = none → refusedWith (.incidentContain tag o n) tag .notFound [] s) ∧
      (∀ i, s.incident? k = some i →
        (i.phase ≠ .acknowledged → refusedWith (.incidentContain tag o n) tag .state [] s) ∧
        (i.phase = .acknowledged → ∃ f, accepted (.incidentContain tag o n) tag s (containIncident i n s).conclude f)))) ∧
  (∀ (tag : Nat) (o n : Option Nat) (s : State), due (.incidentClose tag o n) s →
    (¬ given 1 65535 o → badlyFilled (.incidentClose tag o n) tag "id" s) ∧
    (given 1 65535 o → ¬ fits 1 65535 n → badlyFilled (.incidentClose tag o n) tag "note_code" s) ∧
    (∀ k, o = some k → 1 ≤ k → k ≤ 65535 → fits 1 65535 n →
      (s.incident? k = none → refusedWith (.incidentClose tag o n) tag .notFound [] s) ∧
      (∀ i, s.incident? k = some i →
        (i.phase = .closed → refusedWith (.incidentClose tag o n) tag .state [] s) ∧
        (i.phase ≠ .closed → ∃ f, accepted (.incidentClose tag o n) tag s
          (closeIncident k .operator (s.modIncident k fun j => { j with note := n.or j.note })).2.conclude f)))) ∧
  (∀ (tag : Nat) (o : Option Nat) (a : Option ReleaseKind) (x : Option Nat) (s : State), due (.incidentRelease tag o a x) s →
    (¬ given 1 65535 o → badlyFilled (.incidentRelease tag o a x) tag "id" s) ∧
    (given 1 65535 o → a = none → badlyFilled (.incidentRelease tag o a x) tag "action" s) ∧
    (given 1 65535 o →
      (a = some .holdPlatform ∧ ¬ given 0 63 x) ∨ (a = some .holdTrain ∧ ¬ given 1 999 x) ∨
        (a = some .deenergise ∧ ¬ given 0 23 x) ∨ (a = some .announce ∧ ¬ given 1 255 x) →
      badlyFilled (.incidentRelease tag o a x) tag "index" s) ∧
    (∀ k b l, o = some k → 1 ≤ k → k ≤ 65535 → a = some b → releaseLink b x = .ok l →
      (s.incident? k = none → refusedWith (.incidentRelease tag o a x) tag .notFound [] s) ∧
      (∀ i, s.incident? k = some i →
        (i.phase = .closed → refusedWith (.incidentRelease tag o a x) tag .state [] s) ∧
        (i.phase ≠ .closed → ∃ f, accepted (.incidentRelease tag o a x) tag s
          (((liftAction k l s).modIncident k fun j => { j with links := j.links.filter (· != l) }).incidentNotice k).conclude
          f)))) ∧
  (∀ (k : Nat) (s : State),
    (s.incident? k = none → exec (.escalationExpiry k) s = .next s) ∧
    (∀ i, s.incident? k = some i →
      (i.phase ≠ .raised ∨ (∀ e, i.escalation = some e → s.lmc.count < e) → exec (.escalationExpiry k) s = .next s) ∧
      (∀ e, i.phase = .raised → i.escalation = some e → e ≤ s.lmc.count →
        (4 ≤ i.severity → exec (.escalationExpiry k) s =
          .next (s.modIncident k fun j => { j with escalation := none }).conclude) ∧
        (i.severity < 4 → exec (.escalationExpiry k) s =
          .next (applyResponse k ((s.modIncident k fun j =>
            { j with severity := j.severity + 1,
                     escalation := some (s.lmc.count + s.inm.periods.get j.cls) }).incidentNotice k)).conclude)))) ∧
  (∀ (k : Nat) (i : Incident) (n : Option Nat) (s : State), s.incident? k = some i →
    let u := containIncident i n s
    u.incident? k = some { i with phase := .contained, containedAt := some s.lmc.lineTime, links := keptLinks i.links,
                                  note := n.or i.note } ∧
    (∀ p, .holdPlatform p ∈ i.links → .incident k ∉ u.platHolds p) ∧
    ∀ p, .holdPlatform p ∉ i.links → u.platHolds p = s.platHolds p) ∧
  (∀ (k : Nat) (i : Incident) (cause : CloseCause) (s : State), s.incident? k = some i →
    let u := (closeIncident k cause s).2
    u.incident? k = some { i with links := [], phase := .closed, closedAt := some s.lmc.lineTime, cause := some cause,
                                  escalation := none } ∧
    (Keyed s → (∀ t ∈ u.trk.trains, .incident k ∉ t.holds) ∧ ∀ p ∈ u.srg.plats, .incident k ∉ p.holds) ∧
    (∀ r ∈ u.tpc.sections, k ∉ r.claims) ∧
    ((s.ans.entries.map (·.id)).Nodup → ∀ e ∈ u.ans.entries, e.origin = .incident k → e.withdrawing ≠ none)) ∧
  (∀ (x : Option Nat) (l : IncLink),
    (releaseLink .holdPlatform x = .ok l ↔ ∃ p, x = some p ∧ p ≤ 63 ∧ l = .holdPlatform p) ∧
    (releaseLink .holdTrain x = .ok l ↔ ∃ n, x = some n ∧ 1 ≤ n ∧ n ≤ 999 ∧ l = .holdTrain n) ∧
    (releaseLink .deenergise x = .ok l ↔ ∃ y, x = some y ∧ y ≤ 23 ∧ l = .deenergise y) ∧
    (releaseLink .announce x = .ok l ↔ ∃ e, x = some e ∧ 1 ≤ e ∧ e ≤ 255 ∧ l = .announce e)) ∧
  (∀ (k : Nat) (s : State),
    (∀ p, let u := liftAction k (.holdPlatform p) s
      .incident k ∉ u.platHolds p ∧ (∀ r, r ≠ .incident k → (r ∈ u.platHolds p ↔ r ∈ s.platHolds p)) ∧
        ∀ q, q ≠ p → u.platHolds q = s.platHolds q) ∧
    (∀ n, let u := liftAction k (.holdTrain n) s
      (∀ t, s.train? n = some t → (u.train? n).map (·.holds) = some (t.holds.filter (· != .incident k))) ∧
        ∀ m, m ≠ n → (u.train? m).map (·.holds) = (s.train? m).map (·.holds)) ∧
    (∀ x, liftAction k (.deenergise x) s = s.modSec x fun r => { r with claims := r.claims.filter (· != k) }) ∧
    (∀ e, let u := liftAction k (.announce e) s
      (s.entry? e = none → u = s) ∧
      (∀ w, s.entry? e = some w → w.origin ≠ .incident k → u = s) ∧
      (∀ w, s.entry? e = some w → w.origin = .incident k → u = withdrawEntry e .withdrawn s ∧
        ∀ v, u.entry? e = some v → v.withdrawing ≠ none)))

/-! ### Announcements -/

/-- TEMPLATE_LOAD, ANNOUNCE and WITHDRAW: a template of 1 to 12 elements in range that expand to at most 12 phrases has its write at the
end of the other list, and another is refused with BAD_FIELD, naming the position of the first element at fault (that of an empty list and
of the thirteenth, and the field index that gives it, are of log 43); a post whose fields are in range is taken as any post, refused with
STATE when no station of its scope has a record and with FULL when no entry may be evicted for it; an entry of the table is withdrawn.
What a post asks for is what its fields give (that a repeat of 1 takes no interval is log 17); what it leaves is an entry with the next
id, which has the post's values and a delivery for each station of its scope that has a record, unless every delivery has been skipped and
it has left COMPLETED; with the table full, the entry evicted for it is gone (which one is log 29). What a withdrawal leaves: an ACTIVE
entry is marked with its cause, its playing deliveries are stopped, and it leaves the table once no delivery is PLAYING or STOPPING; an
entry that is not withdrawn leaves it when, not CONTINUOUS, its deliveries are all DONE or SKIPPED. A post of the part's own makes its
entry or, with no room, raises the ANNOUNCE notice FULL. The entry of a head at the segment before a platform posts, in a passenger mode,
for a train IN_SERVICE or POSITIONING, the arrival announcement of a station described with one, unless it stands; those of a train are
dropped by withdrawal. A post is refused with BAD_FIELD naming the first field, in the order of the request, that is missing or out of
range, and else with NOT_FOUND naming scope, or station, where one named is not of the description (a station listed twice counts once:
log 75; the names of the fields: log 4). -/
def Obligations.AnnouncementsPosted : Prop :=
  (∀ (tag : Nat) (o : Option Nat) (l : Option (List Element)) (s : State), due (.templateLoad tag o l) s →
    (¬ given 0 255 o → badlyFilled (.templateLoad tag o l) tag "index" s) ∧
    (given 0 255 o → l = none → badlyFilled (.templateLoad tag o l) tag "elements" s) ∧
    (∀ i e, o = some i → l = some e → i ≤ 255 →
      let inRange := fun x : Element => ∀ n, x = .phrase n → n ≤ 4095
      let most := (e.map fun x => if x = .slot .train then 3 else 1).sum
      let refusedAt := fun k : Nat =>
        refusedWith (.templateLoad tag o l) tag .badField [⟨"field", vWord "elements"⟩, ⟨"index", vNum k⟩] s
      (e = [] → refusedAt 0) ∧
      (∀ p x q, e = p ++ x :: q → p.length ≤ 12 → (∀ y ∈ p, inRange y) → p.length = 12 ∨ ¬ inRange x → refusedAt p.length) ∧
      (e ≠ [] → e.length ≤ 12 → (∀ x ∈ e, inRange x) → 12 < most → badlyFilled (.templateLoad tag o l) tag "elements" s) ∧
      (e ≠ [] → e.length ≤ 12 → (∀ x ∈ e, inRange x) → most ≤ 12 →
        (4 ≤ s.lst.otherList.length → refusedWith (.templateLoad tag o l) tag .storeBusy [] s) ∧
        (s.lst.otherList.length < 4 → ∃ f, accepted (.templateLoad tag o l) tag s
          (State.startOp { s with lst.otherList := s.lst.otherList ++ [.templateWrite i e] }).conclude f)))) ∧
  (∀ (tag : Nat) (f : PostFields) (s : State), due (.announce tag f) s →
    (∀ e, postGiven f s = .error e → refusedWith (.announce tag f) tag e.reason e.details s) ∧
    (∀ p, postGiven f s = .ok p →
      ((postEntry p s).1 = .noStation → refusedWith (.announce tag f) tag .state [] s) ∧
      ((postEntry p s).1 = .full → refusedWith (.announce tag f) tag .full [] s) ∧
      (∀ id evicted, (postEntry p s).1 = .made id evicted → ∃ g, accepted (.announce tag f) tag s
        (postEntry p s).2.conclude g ∧ shows (vNum id) g))) ∧
  (∀ (tag : Nat) (o : Option Nat) (s : State), due (.withdraw tag o) s →
    (¬ given 1 255 o → badlyFilled (.withdraw tag o) tag "id" s) ∧
    (∀ n, o = some n → 1 ≤ n → n ≤ 255 →
      (s.entry? n = none → refusedWith (.withdraw tag o) tag .notFound [] s) ∧
      (∀ e, s.entry? n = some e →
        ∃ f, accepted (.withdraw tag o) tag s (withdrawEntry n .withdrawn s).conclude f))) ∧
  (∀ (f : PostFields) (p : Post) (s : State), postGiven f s = .ok p ↔
    f.template = some p.template ∧ p.template ≤ 255 ∧ f.station = p.station ∧ fits 0 31 p.station ∧ f.minutes = p.minutes ∧
    fits 0 999 p.minutes ∧ f.platform = p.platform ∧ fits 0 63 p.platform ∧ f.train = p.train ∧ fits 1 999 p.train ∧
    f.priority = some p.priority ∧ f.rep = some p.rep ∧ (∀ n, p.rep = .times n → 1 ≤ n ∧ n ≤ 15) ∧ f.interval = p.interval ∧
    (if p.rep = .times 1 then p.interval = none else given 10 1800 p.interval) ∧ f.expiry = p.expiryAfter ∧
    fits 10 86400 p.expiryAfter ∧ f.display = some p.display ∧ p.origin = .operator ∧
    (∀ n, p.station = some n → s.desc.station? n ≠ none) ∧
    ((f.scope = some .all ∧ p.scope = s.desc.stations.map (·.index)) ∨
      (f.scope = some (.stations p.scope) ∧ p.scope ≠ [] ∧ ∀ n ∈ p.scope, n ≤ 31 ∧ s.desc.station? n ≠ none))) ∧
  (∀ (p : Post) (s : State),
    let scope := (ascending p.scope).filter fun st => (s.desc.station? st).isSome
    let r := postEntry p s
    let makes := fun (id : Nat) (others : List Nat) =>
      r.2.ans.lastId = id ∧ (∀ e ∈ r.2.ans.entries, e.id = id ∨ e.id ∈ others) ∧
      (∀ e, r.2.entry? id = some e → e = { newEntry s.lmc.count id scope p with deliveries := e.deliveries } ∧
        e.deliveries.map (·.station) = scope) ∧
      (r.2.entry? id = none → p.rep ≠ .continuous)
    (scope = [] → r = (.noStation, s)) ∧
    (scope ≠ [] → s.ans.entries.length < 48 → ∃ id, r.1 = .made id none ∧
      id = nextId 255 (s.ans.entries.map (·.id)) s.ans.lastId ∧ makes id (s.ans.entries.map (·.id))) ∧
    (scope ≠ [] → 48 ≤ s.ans.entries.length → evictable p.priority s.ans.entries = none → r = (.full, s)) ∧
    (∀ v, scope ≠ [] → s.ans.entries.length = 48 → evictable p.priority s.ans.entries = some v →
      let others := (s.ans.entries.filter (·.id != v.id)).map (·.id)
      ∃ id, r.1 = .made id (some v.id) ∧ id = nextId 255 others s.ans.lastId ∧ makes id others)) ∧
  (∀ (n : Nat) (e : Entry) (s : State), s.entry? n = some e →
    let ends := (e.withdrawing = none ∧ e.rep ≠ .continuous ∧ ∀ d ∈ e.deliveries, d.state = .done ∨ d.state = .skipped) ∨
      (e.withdrawing ≠ none ∧ ∀ d ∈ e.deliveries, d.state ≠ .playing ∧ d.state ≠ .stopping)
    (ends → (checkEntry n s).ans.entries = s.ans.entries.filter (·.id != n)) ∧ (¬ ends → checkEntry n s = s)) ∧
  (∀ (n : Nat) (cause : RemovalCause) (s : State),
    ((∀ e, s.entry? n = some e → e.withdrawing ≠ none) → withdrawEntry n cause s = s) ∧
    (∀ e, s.entry? n = some e → e.withdrawing = none →
      withdrawEntry n cause s = checkEntry n (forEach ((e.deliveries.filter (·.state == .playing)).map (·.station))
        (fun st t => stopZone st none t) (s.modEntry n fun w => { w with withdrawing := some cause })) ∧
      ((∀ d ∈ e.deliveries, d.state ≠ .playing ∧ d.state ≠ .stopping) →
        (withdrawEntry n cause s).ans.entries = s.ans.entries.filter (·.id != n)))) ∧
  (∀ (p : Post) (s : State),
    (∀ id v, (postEntry p s).1 = .made id v → internalPost p s = (some id, (postEntry p s).2)) ∧
    ((postEntry p s).1 = .noStation → internalPost p s = (none, (postEntry p s).2)) ∧
    ((postEntry p s).1 = .full → ∃ l, internalPost p s = (none, (postEntry p s).2.notice .announce l))) ∧
  (∀ (n h : Nat) (s : State),
    let post := fun (p : Nat) (u : State) =>
      { template := u.desc.params.arrivalTemplate, station := some (p / 2), minutes := none, platform := some p, train := some n,
        priority := .information, scope := [p / 2], origin := .arrival n p, rep := .times 1, interval := none,
        expiryAfter := some 60, display := false : Post }
    let wanted := fun (p : Nat) (u : State) => isPassenger u.lmc.mode &&
      (u.desc.station? (p / 2)).any (·.arrival) &&
      (u.train? n).any (fun r => r.state == .inService || r.state == .positioning) &&
      !(u.ans.entries.any (·.origin == .arrival n p))
    arrivalEntries n h s = forEach (s.desc.platformsAhead h) (fun p u => if wanted p u then (internalPost (post p u) u).2 else u) s ∧
    (∀ (d : Description) (p : Nat), p ∈ d.platformsAhead h ↔
      ∃ g, d.platformSegment? p = some g ∧ d.predecessor? g.index = some h) ∧
    dropArrivals n s = forEach ((s.ans.entries.filter fun e => match e.origin with
      | .arrival m _ => m == n
      | _ => false).map (·.id)) (fun id u => withdrawEntry id .withdrawn u) s) ∧
  (∀ (tag : Nat) (f : PostFields) (s : State), due (.announce tag f) s →
    (∀ name, firstAtFault (postTests f) = some name → badlyFilled (.announce tag f) tag name s) ∧
    (firstAtFault (postTests f) = none →
      let listedKnown := ∀ l, f.scope = some (.stations l) → ∀ n ∈ l, s.desc.station? n ≠ none
      (¬ listedKnown → refusedWith (.announce tag f) tag .notFound [⟨"field", vWord "scope"⟩] s) ∧
      (listedKnown → (∃ n, f.station = some n ∧ s.desc.station? n = none) →
        refusedWith (.announce tag f) tag .notFound [⟨"field", vWord "station"⟩] s)))

/-- ENTRY_EXPIRY, DELIVERY_ELIGIBLE, PLAY_LIMIT_EXPIRY and DISPLAY_REFRESH_EXPIRY: each acts when the count has come to its value, or
passed it (log 2): an ACTIVE entry is withdrawn; a PENDING delivery whose moment is still to be taken is offered to its zone (the mark
awaiting is of log 2); a zone that plays posts STOP_PLAY, before it counts the play as done and selects (log 46), and one that stops
confirms the stop; a display's shown value is computed and posted. Otherwise nothing changes (log 1). What a zone selects: one that plays
or stops nothing; an IDLE or LOCAL one the oldest of the highest priority of the entries it may select, which it plays, or whose delivery
is eligible again 1 s later when the queue is full, or is skipped when the template yields no phrase; an UNREACHABLE one none, and it
skips the eligible deliveries that are not CONTINUOUS, in every mode (log 62). What a display shows: at night CLOSED and the message of
EMERGENCY entries; otherwise the first two trains predicted and the message of the oldest of the highest priority of the entries to be
displayed. A DISPLAY is posted when that is not the value last sent, or at the refresh, outside SURVEY and where the zone is not
UNREACHABLE. What the end of a play leaves: with repeats to come the delivery is PENDING again, one play less, after its interval, and
otherwise DONE; one that is skipped SKIPPED; one that is queued again PENDING after its delay; and the zone is LOCAL or IDLE by its
microphone and selects. What a stop leaves: the zone STOPPING, with STOP_PLAY posted when the PLAY was sent, and otherwise the PLAY
withdrawn and, when it was still in the queue, the stop confirmed at once; what its confirmation leaves is by the table of R159. What the
payload of a PLAY_END does: for the entry that the zone plays, DONE, refused or cut; for one it stops, the confirmation. What the payload
of a STATION_STATUS does: the microphone is recorded, an UNREACHABLE zone is reached again, an IDLE or LOCAL one follows the microphone,
one that plays without override gives way to a microphone that is taken, its delivery PENDING again and its PLAY withdrawn when it was not
sent, and one that stops confirms the stop when the microphone is taken or the station plays another clip. What the outcome of a PLAY
does: delivered, it is sent, failed, it is queued again for 1 s later; of one that was to be withdrawn, a STOP_PLAY follows when it was
delivered (log 61). -/
def Obligations.AnnouncementTimersExpire : Prop :=
  (∀ (n : Nat) (s : State),
    (s.entry? n = none → exec (.entryExpiry n) s = .next s ∧ ∀ st, exec (.deliveryEligible n st) s = .next s) ∧
    (∀ e, s.entry? n = some e →
      (e.withdrawing ≠ none ∨ (∀ m, e.expiry = some m → s.lmc.count < m) → exec (.entryExpiry n) s = .next s) ∧
      (∀ m, e.withdrawing = none → e.expiry = some m → m ≤ s.lmc.count →
        exec (.entryExpiry n) s = .next (withdrawEntry n .expired s).conclude) ∧
      (∀ st,
        let ready := ∃ d ∈ e.deliveries, d.station = st ∧ d.awaiting = true ∧ d.state = .pending ∧ d.eligible ≤ s.lmc.count
        (e.withdrawing ≠ none ∨ ¬ ready → exec (.deliveryEligible n st) s = .next s) ∧
        (e.withdrawing = none → ready → exec (.deliveryEligible n st) s =
          .next (offerDelivery n st (s.modDelivery n st fun d => { d with awaiting := false })).conclude)))) ∧
  (∀ (st : Nat) (s : State),
    ((∀ id o b m, s.zoneState? st = some (.playing id o b m) → s.lmc.count < m) →
      (∀ id b x m, s.zoneState? st = some (.stopping id b x m) → s.lmc.count < m) → exec (.playLimitExpiry st) s = .next s) ∧
    (∀ id o b m, s.zoneState? st = some (.playing id o b m) → m ≤ s.lmc.count → exec (.playLimitExpiry st) s =
      .next (leavePlaying st o (playDone id st (postOrDrop (s.stationUnit st) (.stopPlay id) s))).conclude) ∧
    (∀ id b x m, s.zoneState? st = some (.stopping id b x m) → m ≤ s.lmc.count → exec (.playLimitExpiry st) s =
      .next (confirmStop st .back s).conclude)) ∧
  (∀ (p : Nat) (s : State),
    (s.display? p = none → exec (.displayRefreshExpiry p) s = .next s) ∧
    (∀ d, s.display? p = some d →
      ((∀ m, d.refresh = some m → s.lmc.count < m) → exec (.displayRefreshExpiry p) s = .next s) ∧
      (∀ m, d.refresh = some m → m ≤ s.lmc.count → exec (.displayRefreshExpiry p) s =
        .next (computeDisplay true p s).conclude))) ∧
  (∀ (st : Nat) (z : Zone) (s : State), s.zone? st = some z → (s.ans.entries.map (·.id)).Nodup →
    let t := selectZone st s
    let isLocal := z.state == .local_
    ((∃ id o b m, z.state = .playing id o b m) ∨ (∃ id b x m, z.state = .stopping id b x m) → t = s) ∧
    (z.state = .unreachable →
      (∀ e ∈ t.ans.entries, e.withdrawing = none → e.rep ≠ .continuous → ¬ eligible s st e) ∧
      ∀ e ∈ s.ans.entries, e.withdrawing ≠ none ∨ e.rep = .continuous ∨ ¬ eligible s st e → e ∈ t.ans.entries) ∧
    (z.state = .idle ∨ z.state = .local_ →
      ((∀ e ∈ s.ans.entries, ¬ mayPlay s st isLocal e) → t = s) ∧
      (∀ e, foremost (mayPlay s st isLocal) s.ans.entries e →
        (s.expansion e st = [] → t = selectZone st (skipDelivery e.id st s)) ∧
        (s.expansion e st ≠ [] → 32 ≤ s.wlc.outQueue.length → t = s.modDelivery e.id st fun d =>
          { d with state := .pending, eligible := s.lmc.count + 1, awaiting := true }) ∧
        (s.expansion e st ≠ [] → s.wlc.outQueue.length < 32 →
          t.zoneState? st = some (.playing e.id isLocal false (s.lmc.count + 180)) ∧
          t.ans.entries = (s.modDelivery e.id st fun d => { d with state := .playing, awaiting := false }).ans.entries ∧
          ∃ f ∈ t.wlc.outQueue, f.dest = s.stationUnit st ∧
            f.body = .play e.id isLocal (e.priority == .emergency) (s.expansion e st))))) ∧
  (∀ (st : Nat) (night : Bool) (s : State),
    ((∀ e ∈ s.ans.entries, ¬ mayShow st night e) → s.messageFor st night = []) ∧
    ∀ e, foremost (mayShow st night) s.ans.entries e → s.messageFor st night = s.expansion e st) ∧
  (∀ (p : Nat) (s : State),
    let item := fun q : Nat × Nat =>
      { train := q.1, indication := if q.2 ≤ 30 then .arriving else .minutes (min 99 ((q.2 + 59) / 60)) : DisplayItem }
    (isNight s.lmc.mode = true → s.shown p = { first := none, second := none, closed := true, message := s.messageFor (p / 2) true }) ∧
    (isNight s.lmc.mode = false → s.shown p = { first := (s.predictions p)[0]?.map item, second := (s.predictions p)[1]?.map item,
                                                closed := false, message := s.messageFor (p / 2) false })) ∧
  (∀ (force : Bool) (p : Nat) (d : Display) (s : State), s.display? p = some d →
    let t := computeDisplay force p s
    let live := s.lmc.mode ≠ .survey ∧ ∃ z, s.zone? (p / 2) = some z ∧ z.state ≠ .unreachable
    (¬ live → t = s) ∧
    (force = false → d.last = some (s.shown p) → t = s) ∧
    (live → force = true ∨ d.last ≠ some (s.shown p) →
      (s.wlc.outQueue.length < 32 → t.display? p = some { d with last := some (s.shown p), refresh := some (s.lmc.count + 30) } ∧
        ∃ f ∈ t.wlc.outQueue, f.dest = s.stationUnit (p / 2) ∧ f.body = .display p (s.shown p)) ∧
      (32 ≤ s.wlc.outQueue.length → t = s.modDisplay p fun q => { q with refresh := some (s.lmc.count + 30) }))) ∧
  (∀ (st : Nat) (next : Option Nat) (s : State),
    ((∀ id o b m, s.zoneState? st ≠ some (.playing id o b m)) → stopZone st next s = s) ∧
    (∀ id o b m, s.zoneState? st = some (.playing id o b m) →
      let t := setZone st (.stopping id b next m) (s.modDelivery id st fun d => { d with state := .stopping })
      let w := withdrawFrame (isPlayOf (s.stationUnit st) id) t
      (b = true → stopZone st next s = postOrDrop (s.stationUnit st) (.stopPlay id) t) ∧
      (b = false → stopZone st next s = if w.1 = .gone then confirmStop st .back w.2 else w.2))) ∧
  (∀ (n st : Nat) (s : State),
    (s.entry? n = none → playDone n st s = s) ∧
    (∀ e, s.entry? n = some e → playDone n st s = checkEntry n (s.modDelivery n st fun d =>
      let again := { d with state := .pending, eligible := s.lmc.count + e.interval.getD 0, awaiting := true : Delivery }
      match d.plays with
      | .continuous => again
      | .times k => if 1 < k then { again with plays := .times (k - 1) }
                    else { d with plays := .times (k - 1), state := .done, awaiting := false }))) ∧
  (∀ (n st delay : Nat) (s : State),
    (∃ l, skipDelivery n st s = checkEntry n (State.notice .announce l
      (s.modDelivery n st fun d => { d with state := .skipped, awaiting := false }))) ∧
    requeueDelivery n st delay s = s.modDelivery n st fun d =>
      { d with state := .pending, eligible := s.lmc.count + delay, awaiting := decide (0 < delay) }) ∧
  (∀ (st : Nat) (z : Zone) (new : ZoneState) (s : State), s.zone? st = some z →
    (setZone st new s).zone? st = some { z with state := new } ∧ (∀ y, y ≠ st → (setZone st new s).zone? y = s.zone? y) ∧
    (setZone st new s).ans.entries = s.ans.entries ∧ (s.micTaken st = true ↔ z.mic = some true)) ∧
  (∀ (st : Nat) (how : Confirmation) (s : State),
    ((∀ id b x m, s.zoneState? st ≠ some (.stopping id b x m)) → confirmStop st how s = s) ∧
    (∀ id b x m, s.zoneState? st = some (.stopping id b x m) →
      let frees := fun t : State => selectZone st (setZone st (if t.micTaken st then .local_ else .idle) t)
      (how = .done → confirmStop st how s = frees (checkEntry id (playDone id st s))) ∧
      (how = .refused → confirmStop st how s = frees (checkEntry id (skipDelivery id st s))) ∧
      (how = .back → confirmStop st how s = frees (checkEntry id (s.modDelivery id st fun d =>
        { d with state := .pending, eligible := s.lmc.count, awaiting := false })))) ∧
    (∀ force, leavePlaying st force s = selectZone st (setZone st (if force && s.micTaken st then .local_ else .idle) s))) ∧
  (∀ (a : Nat) (p : List Octet) (s : State),
    let u := playReport a p s
    ((∀ e o, p = [e, o] → 2 < o.toNat) → u = s) ∧ (s.desc.unitStation? a = none → u = s) ∧
    (∀ e o st, p = [e, o] → o.toNat ≤ 2 → s.desc.unitStation? a = some st →
      let n := e.toNat
      ((∀ force b m, s.zoneState? st ≠ some (.playing n force b m)) → (∀ b x m, s.zoneState? st ≠ some (.stopping n b x m)) →
        u = s) ∧
      (∀ force b m, s.zoneState? st = some (.playing n force b m) →
        (o.toNat = 0 → u = leavePlaying st force (playDone n st s)) ∧
        (o.toNat = 1 → u = leavePlaying st force (skipDelivery n st s)) ∧
        (o.toNat = 2 → u = leavePlaying st force (requeueDelivery n st 0 s))) ∧
      (∀ b x m, s.zoneState? st = some (.stopping n b x m) →
        (o.toNat = 0 → u = confirmStop st .done s) ∧ (o.toNat = 1 → u = confirmStop st .refused s) ∧
        (o.toNat = 2 → u = confirmStop st .back s)))) ∧
  (∀ (a : Nat) (p : List Octet) (s : State),
    let u := stationReport a p s
    ((∀ m c, p = [m, c] → 1 < m.toNat) → u = s) ∧ (s.desc.unitStation? a = none → u = s) ∧
    (∀ m c st z, p = [m, c] → m.toNat ≤ 1 → s.desc.unitStation? a = some st → s.zone? st = some z →
      let taken := m.toNat = 1
      let t := s.modZone st fun q => { q with mic := some (decide taken) }
      let frees := fun v : State => selectZone st (setZone st (if taken then .local_ else .idle) v)
      (z.state = .unreachable → u = (frees t).displaysAt [st]) ∧
      (z.state = .idle → u = if taken then frees t else t) ∧
      (z.state = .local_ → u = if taken then t else frees t) ∧
      (∀ n force sent l, z.state = .playing n force sent l →
        (¬ taken ∨ force = true → u = t) ∧
        (taken → force = false →
          let v := requeueDelivery n st 0 t
          u = frees (if sent then v else (withdrawFrame (isPlayOf (s.stationUnit st) n) v).2))) ∧
      (∀ n sent x l, z.state = .stopping n sent x l →
        u = if taken ∨ c.toNat ≠ n then confirmStop st .back t else t))) ∧
  (∀ (f : OutFrame) (n st : Nat) (o : FrameEnd) (s : State), s.desc.unitStation? f.dest = some st →
    let u := playOutcome f n o s
    let late := if f.withdrawing = true ∧ o = .delivered then postOrDrop f.dest (.stopPlay n) s else s
    (∀ x m, s.zoneState? st = some (.stopping n false x m) →
      u = if o = .delivered then postOrDrop f.dest (.stopPlay n) (setZone st (.stopping n true x m) s) else confirmStop st .back s) ∧
    (∀ force b m, s.zoneState? st = some (.playing n force b m) → f.withdrawing = false →
      (o = .delivered → u = setZone st (.playing n force true m) s) ∧
      (o = .failed → u = leavePlaying st force (requeueDelivery n st 1 s))) ∧
    ((∀ x m, s.zoneState? st ≠ some (.stopping n false x m)) →
      (∀ force b m, s.zoneState? st = some (.playing n force b m) → f.withdrawing = true) → u = late))

/-! ### Line modes -/

/-- MODE_REQUEST and SURVEY_END, with their refusals in order; no line spells SURVEY as a target. A target is refused in SURVEY with MODE;
the present mode as target is accepted and changes nothing but a flag given. Another is refused with STATE from NIGHT_HELD unless it is
NIGHT_LIVE; from NIGHT_LIVE to a passenger mode, with HELD and the number of HELD sections, with STATE without an active slot, and with
STATE without a line time; from a passenger mode to a night mode with TRAINS_OUT and the number of RUNNING trips; and to NIGHT_HELD with
TRAINS_OUT and the number of trains IN_SERVICE. Otherwise a given flag is recorded, with its MODE notice before the change of mode (log
45), and the target is entered, a NIGHT_HELD one demoted to NIGHT_LIVE while a train is POSITIONING or LOST or an incident of severity 3
or 4 is open, the causes given in the reply. SURVEY_END is taken only in SURVEY, and leaves it: refused with STATE without a valid
description, with a load session, with a unit UNHEARD, and, for a passenger mode, with a section UNKNOWN, without an active slot or
without a line time, and for NIGHT_HELD with TRAINS_OUT; demoted in the same way. An escalation request of an incident brings NIGHT_HELD
to NIGHT_LIVE, and REDUCED to TRAFFIC with the flag set, with cause ESCALATE, and no section's state changes by it; in any other case
nothing changes. The names and the order of the reply fields and of the details of a refusal, held_count, count, mode, changed, escalate
and demotion_causes, are the model's choice (log 5). -/
def Obligations.ModesRequested : Prop :=
  (∀ (tag : Nat) (o : Option Mode) (b : Option Bool) (s : State), due (.modeRequest tag o b) s →
    (o = none → badlyFilled (.modeRequest tag o b) tag "target" s) ∧
    (∀ m, o = some m → m ≠ .survey →
      (s.lmc.mode = .survey → refusedWith (.modeRequest tag o b) tag .mode [] s) ∧
      (s.lmc.mode ≠ .survey →
        let t := setEscalation b s
        let running := (s.srg.trips.filter (·.status == .running)).length
        let inService := (s.trk.trains.filter (·.state == .inService)).length
        let fromLive := s.lmc.mode = .nightLive ∧ isPassenger m = true
        let sleeps := isPassenger s.lmc.mode = true ∧ isNight m = true
        let causes := if m = .nightHeld then s.demotions else []
        let lands := if causes = [] then m else .nightLive
        let reply := fun (u : State) (changed : Bool) =>
          [⟨"mode", vWord (modeWord lands)⟩, ⟨"changed", vYes changed⟩, ⟨"escalate", vYes u.lmc.escalation⟩,
           ⟨"demotion_causes", vAtoms (causes.map Atom.word)⟩]
        (m = s.lmc.mode → ∃ f, accepted (.modeRequest tag o b) tag s t f ∧ shows (vYes false) f) ∧
        (m ≠ s.lmc.mode → s.lmc.mode = .nightHeld → m ≠ .nightLive → refusedWith (.modeRequest tag o b) tag .state [] s) ∧
        (fromLive → s.lmc.heldCount ≠ 0 →
          refusedWith (.modeRequest tag o b) tag .held [⟨"held_count", vNum s.lmc.heldCount⟩] s) ∧
        (fromLive → s.lmc.heldCount = 0 → s.lst.active = none →
          refusedWith (.modeRequest tag o b) tag .state [⟨"field", vWord "slot"⟩] s) ∧
        (fromLive → s.lmc.heldCount = 0 → s.lst.active ≠ none → s.lmc.timeSet = false →
          refusedWith (.modeRequest tag o b) tag .state [⟨"field", vWord "time"⟩] s) ∧
        (sleeps → running ≠ 0 → refusedWith (.modeRequest tag o b) tag .trainsOut [⟨"count", vNum running⟩] s) ∧
        (m ≠ s.lmc.mode → (sleeps → running = 0) → m = .nightHeld → inService ≠ 0 →
          refusedWith (.modeRequest tag o b) tag .trainsOut [⟨"count", vNum inService⟩] s) ∧
        (m ≠ s.lmc.mode → (s.lmc.mode = .nightHeld → m = .nightLive) →
          (fromLive → s.lmc.heldCount = 0 ∧ s.lst.active ≠ none ∧ s.lmc.timeSet = true) → (sleeps → running = 0) →
          (m = .nightHeld → inService = 0) →
          (lands = s.lmc.mode → accepted (.modeRequest tag o b) tag s t.conclude (reply t false)) ∧
          (lands ≠ s.lmc.mode →
            accepted (.modeRequest tag o b) tag s (modeChange lands .request none t).conclude (reply t true)))))) ∧
  (∀ (tag : Nat) (o : Option Mode) (s : State), due (.surveyEnd tag o) s →
    (o = none → badlyFilled (.surveyEnd tag o) tag "target" s) ∧
    (∀ m, o = some m → m ≠ .survey →
      (s.lmc.mode ≠ .survey → refusedWith (.surveyEnd tag o) tag .mode [] s) ∧
      (s.lmc.mode = .survey →
        let refused := fun (r : Reason) (l : List Field) => refusedWith (.surveyEnd tag o) tag r l s
        let inService := (s.trk.trains.filter (·.state == .inService)).length
        ((∀ d, s.lst.lineRegion ≠ .whole d) → refused .state [⟨"field", vWord "description"⟩]) ∧
        (∀ d, s.lst.lineRegion = .whole d →
          (s.lmc.session ≠ .closed → refused .state [⟨"field", vWord "session"⟩]) ∧
          (s.lmc.session = .closed →
            (∀ p u q, s.wlc.registry = p ++ u :: q → (∀ v ∈ p, v.state ≠ .unheard) → u.state = .unheard →
              refused .state [⟨"address", vNum u.address⟩]) ∧
            ((∀ u ∈ s.wlc.registry, u.state ≠ .unheard) →
              (∀ p x q, isPassenger m = true → s.tpc.sections = p ++ x :: q → (∀ y ∈ p, y.state ≠ .unknown) → x.state = .unknown →
                refused .state [⟨"section", vNum x.index⟩]) ∧
              (isPassenger m = true → (∀ x ∈ s.tpc.sections, x.state ≠ .unknown) →
                (s.lst.active = none → refused .state [⟨"field", vWord "slot"⟩]) ∧
                (s.lst.active ≠ none → s.lmc.timeSet = false → refused .state [⟨"field", vWord "time"⟩])) ∧
              (m = .nightHeld → inService ≠ 0 → refused .trainsOut [⟨"count", vNum inService⟩]) ∧
              ((isPassenger m = true → (∀ x ∈ s.tpc.sections, x.state ≠ .unknown) ∧ s.lst.active ≠ none ∧ s.lmc.timeSet = true) →
                (m = .nightHeld → inService = 0) →
                let t := rebuildTrips s
                let causes := if m = .nightHeld then t.demotions else []
                let lands := if causes = [] then m else .nightLive
                ∃ u, u = (modeChange lands .surveyEnd none t).conclude ∧ u.lmc.mode = lands ∧
                  accepted (.surveyEnd tag o) tag s u
                    [⟨"mode", vWord (modeWord lands)⟩, ⟨"demotion_causes", vAtoms (causes.map Atom.word)⟩]))))))) ∧
  (∀ (s : State) (w : String), w ∈ s.demotions ↔ demotes s w) ∧
  (∀ (b : Bool) (s : State), setEscalation none s = s ∧ (s.lmc.escalation = b → setEscalation (some b) s = s) ∧
    (s.lmc.escalation ≠ b → ∃ l, setEscalation (some b) s = State.notice .mode l { s with lmc.escalation := b })) ∧
  (∀ (m : Mode) (c : ModeCause) (i : Option Nat) (s : State),
    (modeChange m c i s).lmc.mode = m ∧ (modeChange m c i s).clp.flags.get .mode = true ∧
    (modeChange m c i s).lmc.lastChange = { old := some s.lmc.mode, new := m, cause := c, time := s.lmc.lineTime, incident := i }) ∧
  (∀ (k : Nat) (s : State),
    let enters := fun m : Mode => escalate k s = modeChange m .escalate (some k) s ∧ ∀ x, (escalate k s).secState? x = s.secState? x
    (s.lmc.mode = .nightHeld → enters .nightLive) ∧
    (s.lmc.mode = .reduced → s.lmc.escalation = true → enters .traffic) ∧
    (s.lmc.mode ≠ .nightHeld → ¬ (s.lmc.mode = .reduced ∧ s.lmc.escalation = true) → escalate k s = s))

/-- What settles at the end of a step, and the expiry of a timer, leave the standing part of the state alone: the clock, the descriptions,
the stored regions, the inbound lines and frames, the patterns, and the settings; lines are only added to those sent. What settles: the
moves of the power and isolation block, one after another until there is none; the POLLs owed, while fewer than 24 frames are queued; the
next store operation; the survey readiness. The next move is, by log 10: the first command end is handed on; else the OPENs owed are
placed, with room in the queue; else the first running sequence that can moves on; else a command starts, the first one QUEUED of its unit
while no other of the unit is in flight and its breaker does not move, by its SELECT, or ends FAILED_DELIVERY without room for it; else a
WAITING sequence begins; else the first isolation that can moves. The store's next is a permit operation, then the head of the other list,
in which an index write owed is placed when there is room; a slot commit begins with its page. The readiness is NOT_READY, NIGHT_READY or
DAY_READY by R175 in SURVEY, absent elsewhere, with a MODE notice as it becomes another; a unit that becomes LIVE or STALE has it computed
then (log 76). The OPENs owed take the free places in ascending breaker index; the same and the starts go on at once where an OPEN is
placed or a CLOSE of a section is cancelled in the middle of a step, whose SELECT and OPERATE are withdrawn, with CANCEL_SELECT where its
SELECT has left the queue. How a sequence and an isolation move is stated in `SequencesPlaced` and `PermitsRequestedAndEnded`. -/
def Obligations.TimersKeepTheStandingPart : Prop :=
  (∀ s : State, standing s.conclude = standing s ∧ s.clp.sent <+: s.conclude.clp.sent) ∧
  (∀ (i : Instr) (s t : State), isExpiry i = true → exec i s = .next t →
    standing t = standing s ∧ s.clp.sent <+: t.clp.sent) ∧
  (∀ s : State, s.conclude = (tpcSettle s).polls.storeNext.updateReadiness ∧ tpcSettle s = repeatWhile tpcMove? 2048 s ∧
      repeatWhile tpcMove? 0 s = s ∧ ∀ n : Nat, (tpcMove? s = none → repeatWhile tpcMove? (n + 1) s = s) ∧
        ∀ t, tpcMove? s = some t → repeatWhile tpcMove? (n + 1) s = repeatWhile tpcMove? n t) ∧
  (∀ s : State,
    let owes := s.tpc.queue.length < 16 ∧ ∃ r ∈ s.tpc.breakers, r.owed ≠ none
    (∀ r l, s.tpc.reports = r :: l → tpcMove? s = some (takeReport r { s with tpc.reports := l })) ∧
    (s.tpc.reports = [] →
      (owes → tpcMove? s = some (placeOwed s)) ∧
      (¬ owes → firstMove seqMove? s.runningSeqs s (tpcMove? s) ∧
        ((∀ q ∈ s.runningSeqs, seqMove? s q = none) →
          (∀ c, s.startable? = some c → tpcMove? s = some (startCmd c s)) ∧
          (s.startable? = none →
            (∀ r, s.nextSeq? = some r → tpcMove? s = some (startSeq r s)) ∧
            (s.nextSeq? = none → firstMove isolationMove? s.tpc.isolations s (tpcMove? s) ∧
              ((∀ i ∈ s.tpc.isolations, isolationMove? s i = none) → tpcMove? s = none))))))) ∧
  (∀ s : State,
    (∀ c, s.startable? = some c → c.phase = .queued ∧ s.brkMoving c.breaker = false ∧
      (∀ d ∈ s.tpc.queue, d.unit = c.unit → d.phase = .queued) ∧
      ∃ a b, s.tpc.queue = a ++ c :: b ∧ ∀ d ∈ a, d.unit ≠ c.unit) ∧
    (s.startable? = none → ∀ a c b, s.tpc.queue = a ++ c :: b → c.phase = .queued → (∀ d ∈ a, d.unit ≠ c.unit) →
      s.brkMoving c.breaker = true ∨ ∃ d ∈ s.tpc.queue, d.unit = c.unit ∧ d.phase ≠ .queued)) ∧
  (∀ (c : Cmd) (s : State),
    let d := { c with phase := .selecting, code := s.tpc.nextCode : Cmd }
    let t := { (s.modCmd c fun _ => d) with tpc.nextCode := (s.tpc.nextCode + 1) % 256 }
    (s.wlc.outQueue.length < 32 →
      startCmd c s = postOrDrop c.unit (.select (s.breakerNumber c.breaker) c.action s.tpc.nextCode) t) ∧
    (32 ≤ s.wlc.outQueue.length → startCmd c s = endCmd d .failedDelivery t)) ∧
  (∀ s : State,
    (∀ (d : Nat) (b : Body), (32 ≤ s.wlc.outQueue.length → postOrDrop d b s = s) ∧
      (s.wlc.outQueue.length < 32 → postOrDrop d b s =
        { s with wlc.seqCounter := (s.wlc.seqCounter + 1) % 16,
                 wlc.outQueue := enqueue { dest := d, body := b, sequence := s.wlc.seqCounter, tries := 0, onLine := false,
                                           withdrawing := false, removing := false } s.wlc.outQueue })) ∧
    (24 ≤ s.wlc.outQueue.length ∨ (∀ u ∈ s.wlc.registry, u.pollPending = false) → s.polls = s) ∧
    (∀ a u b, s.wlc.registry = a ++ u :: b → (∀ v ∈ a, v.pollPending = false) → u.pollPending = true → s.wlc.outQueue.length < 24 →
      s.polls = ((postOrDrop u.address .poll s).modUnit u.address fun r => { r with pollPending := false }).polls) ∧
    (24 ≤ s.polls.wlc.outQueue.length ∨ ∀ u ∈ s.polls.wlc.registry, u.pollPending = false)) ∧
  (∀ s : State,
    (s.lst.inFlight ≠ none → s.startOp = s) ∧
    (s.lst.inFlight = none →
      (∀ r l, s.lst.permitList = .permitWrite r :: l →
        s.startOp = { s with lst.permitList := l, lst.inFlight := some (.permitWrite r) }) ∧
      (∀ n l, s.lst.permitList = .permitErase n :: l →
        s.startOp = { s with lst.permitList := l, lst.inFlight := some (.permitErase n) }) ∧
      (s.lst.permitList = [] →
        (s.lst.otherList = [] → s.startOp = s) ∧
        (∀ i l, s.lst.otherList = .commit i :: l → s.startOp = { s with lst.inFlight := some (.commitPage i) }) ∧
        (∀ o l, s.lst.otherList = o :: l → let t := { s with lst.otherList := l }
          (∀ i e, o = .templateWrite i e → s.startOp = { t with lst.inFlight := some (.templateWrite i e) }) ∧
          (∀ c v e, o = .responseWrite c v e → s.startOp = { t with lst.inFlight := some (.responseWrite c v e) }) ∧
          (o = .indexWrite → s.startOp = { t with lst.inFlight := some (.indexWrite s.lst.active s.lst.scheduled) }) ∧
          (∀ d, o = .lineDescription d → s.startOp = { t with lst.inFlight := some (.lineDescription d) }))))) ∧
  (∀ s : State, s.storeNext = s.startOp.placeIndex.startOp ∧
    (s.lst.indexDue = false ∨ (.indexWrite ∉ s.lst.otherList ∧ 4 ≤ s.lst.otherList.length) → s.placeIndex = s) ∧
    (s.lst.indexDue = true → .indexWrite ∈ s.lst.otherList → s.placeIndex = { s with lst.indexDue := false }) ∧
    (s.lst.indexDue = true → .indexWrite ∉ s.lst.otherList → s.lst.otherList.length < 4 →
      s.placeIndex = { s with lst.otherList := s.lst.otherList ++ [.indexWrite], lst.indexDue := false })) ∧
  (∀ s : State,
    let night := s.descriptionValid = true ∧ s.lmc.session = .closed ∧ ∀ u ∈ s.wlc.registry, u.state ≠ .unheard
    let day := night ∧ (∀ x ∈ s.tpc.sections, x.state ≠ .unknown) ∧ s.lst.active ≠ none ∧ s.lmc.timeSet = true
    let t := s.updateReadiness
    let v := { s with lmc.readiness := t.lmc.readiness }
    (s.lmc.mode ≠ .survey → t.lmc.readiness = none) ∧
    (s.lmc.mode = .survey → (day → t.lmc.readiness = some .dayReady) ∧ (night → ¬ day → t.lmc.readiness = some .nightReady) ∧
      (¬ night → t.lmc.readiness = some .notReady)) ∧
    (t.lmc.readiness = s.lmc.readiness ∨ t.lmc.readiness = none → t = v) ∧
    (t.lmc.readiness ≠ s.lmc.readiness → t.lmc.readiness ≠ none → t = v.notice .mode v.modeSummary)) ∧
  (∀ (a : Nat) (u : UnitRec) (o : RaiseOrigin) (s : State), s.unitRec? a = some u →
    let v := s.modUnit a fun r => { r.restartTimer s.now (s.silenceLimit a) with state := .live, heard := some s.lmc.lineTime }
    let w := s.modUnit a fun r =>
      { r.restartTimer s.now (s.silenceLimit a) with state := .stale, failures := 0, sequence := none }
    (u.state ≠ .live → v.updateReadiness.clp.sent <+: (hear a s).clp.sent) ∧
    w.updateReadiness.clp.sent <+: (goStale a o s).clp.sent) ∧
  (∀ s : State,
    let owes := s.tpc.queue.length < 16 ∧ ∃ r ∈ s.tpc.breakers, r.owed ≠ none
    placeOwed s = forEach (s.tpc.breakers.filterMap fun r => r.owed.map fun o => (r.index, o)) (fun q t =>
      if t.tpc.queue.length < 16 then { (t.modBrk q.1 fun r => { r with owed := none }) with
        tpc.queue := t.tpc.queue ++ [{ breaker := q.1, unit := t.desc.breakerUnit q.1, action := .opening, origin := q.2,
                                       phase := .queued, code := 0, window := none }] }
      else t) s ∧
    startCommands s = repeatWhile queueMove? 256 s ∧ (owes → queueMove? s = some (placeOwed s)) ∧
    (¬ owes → queueMove? s = s.startable?.map fun c => startCmd c s) ∧
    (∀ (x : Nat) (p : Cmd → Bool), cancelCloses x p s = forEach (s.desc.breakersFeeding x) (fun b t =>
      match t.closeCmd? b with
      | some c => if p c = true then cancelCmd c t else t
      | none => t) s) ∧
    ∀ c : Cmd,
      let t := endCmd c .cancelled s
      let n := t.breakerNumber c.breaker
      let select := withdrawFrame (fun f => f.dest == c.unit && f.body == .select n c.action c.code) t
      let v := (withdrawFrame (fun f => f.dest == c.unit && f.body == .operate n c.code) select.2).2
      cancelCmd c s = if c.phase = .queued then t else if select.1 = .notFound then cancelSelect c.unit n c.code v else v)
end

