-- ==== Sys2Proof/Laws/Lists.lean ====
section
/-!
SUPPORT. What the shared list operations do: the lengths they keep or raise by one, and what a later lookup by key finds.
-/

namespace Sys2Proof.Laws

open Sys2Proof.Machine

@[simp] theorem modify_length (p : α → Bool) (f : α → α) (l : List α) : (modify p f l).length = l.length := by
  simp [Machine.modify]

@[simp] theorem modify_nil (p : α → Bool) (f : α → α) : modify p f [] = [] := rfl

@[simp] theorem modify_cons (p : α → Bool) (f : α → α) (x : α) (l : List α) :
    modify p f (x :: l) = (if p x then f x else x) :: modify p f l := rfl

@[simp] theorem forEach_nil (f : α → σ → σ) (s : σ) : forEach [] f s = s := rfl

@[simp] theorem forEach_cons (x : α) (l : List α) (f : α → σ → σ) (s : σ) : forEach (x :: l) f s = forEach l f (f x s) := rfl

/-- What a change keeps of one member it keeps of all. -/
theorem forall_modify {q : α → Prop} (p : α → Bool) (f : α → α) (k : ∀ x, q x → q (f x)) {l : List α} (h : ∀ x ∈ l, q x) :
    ∀ x ∈ modify p f l, q x := by
  intro x m
  obtain ⟨y, my, rfl⟩ := List.mem_map.mp m
  split
  · exact k y (h y my)
  · exact h y my

/-- A change that keeps the keys leaves the list of them. -/
theorem modify_keys (key : α → κ) (p : α → Bool) (f : α → α) (k : ∀ x, key (f x) = key x) (l : List α) :
    (modify p f l).map key = l.map key := by
  simp only [Machine.modify, List.map_map]
  refine List.map_congr_left fun x _ => ?_
  simp only [Function.comp_apply]
  split <;> simp [k]

/-- A change that keeps the key is found under the key. -/
theorem find_modify (key : α → Nat) (n : Nat) (f : α → α) (k : ∀ x, key (f x) = key x) (l : List α) :
    (modify (fun x => key x == n) f l).find? (fun x => key x == n) = (l.find? fun x => key x == n).map f := by
  induction l with
  | nil => rfl
  | cons x l ih =>
    by_cases h : (key x == n) = true
    · simp [h, k x]
    · simp [h, ih]

/-- A change of one key's record leaves the others. -/
theorem find_modify_other (key : α → Nat) (n m : Nat) (f : α → α) (k : ∀ x, key (f x) = key x) (d : m ≠ n) (l : List α) :
    (modify (fun x => key x == n) f l).find? (fun x => key x == m) = l.find? fun x => key x == m := by
  induction l with
  | nil => rfl
  | cons x l ih =>
    by_cases h : key x = n
    · have : (key x == m) = false := by simp [h, Ne.symm d]
      simp [h, k x, ih, Ne.symm d]
    · simp [h, ih, List.find?_cons]

/-- An insertion puts one member more, or replaces one. -/
theorem insertBy_length_le (key : α → Nat) (x : α) (l : List α) : (insertBy key x l).length ≤ l.length + 1 := by
  induction l with
  | nil => simp [insertBy]
  | cons y l ih =>
    unfold insertBy
    split
    · simp
    · split
      · simp
      · simpa using ih

theorem insertAfter_length (before : α → α → Bool) (x : α) (l : List α) : (insertAfter before x l).length = l.length + 1 := by
  induction l with
  | nil => rfl
  | cons y l ih => unfold insertAfter; split <;> simp [ih]

@[simp] theorem enqueue_length (f : OutFrame) (q : List OutFrame) : (enqueue f q).length = q.length + 1 :=
  insertAfter_length _ f q

/-- Every member of an insertion is the new one or an old one. -/
theorem mem_insertAfter (before : α → α → Bool) (x y : α) (l : List α) : y ∈ insertAfter before x l ↔ y = x ∨ y ∈ l := by
  induction l with
  | nil => simp [insertAfter]
  | cons z l ih =>
    unfold insertAfter
    split
    · simp
    · simp only [List.mem_cons, ih]
      constructor
      · rintro (h | h | h) <;> simp [h]
      · rintro (h | h | h) <;> simp [h]

theorem filter_length_mono (p : α → Bool) (l : List α) (n : Nat) (h : l.length ≤ n) : (l.filter p).length ≤ n :=
  Nat.le_trans (List.length_filter_le p l) h

/-- To remove the members that share a member's key makes a list shorter. -/
theorem filter_key_length_lt {key : α → Nat} {v : α} {l : List α} (m : v ∈ l) :
    (l.filter fun x => key x != key v).length < l.length := by
  induction l with
  | nil => cases m
  | cons x l ih =>
    by_cases h : key x = key v
    · simpa [h] using Nat.lt_succ_of_le (List.length_filter_le _ l)
    · rcases List.mem_cons.mp m with e | e
      · exact absurd (e ▸ rfl) h
      · simpa [h] using ih e

/-- The member with the least key is a member. -/
theorem leastBy_mem {key : α → Nat} {l : List α} {v : α} (e : leastBy key l = some v) : v ∈ l := by
  induction l generalizing v with
  | nil => cases e
  | cons x l ih =>
    unfold leastBy at e
    split at e
    · cases e; simp
    · split at e <;> cases e
      · exact List.mem_cons_of_mem _ (ih ‹_›)
      · simp

/-- One of two choices in turn. -/
theorem orElse_some {o : Option α} {f : Unit → Option α} {a : α} (e : o.orElse f = some a) : o = some a ∨ f () = some a := by
  cases o
  · exact Or.inr e
  · exact Or.inl e

end Sys2Proof.Laws
end

