-- ==== Sys2Proof/Laws/Within.lean ====
section
/-!
SUPPORT. The laws of `Safety.Within`: it holds of a state and itself, it composes, and a change of one component that keeps the
standing fields and the capacities of that component stays within.
-/

namespace Sys2Proof.Laws

open Sys2Proof.Machine Sys2Proof.Safety

@[simp] theorem within_refl (s : State) : Within s s := ⟨rfl, List.prefix_refl _, id⟩

theorem within_trans {s t u : State} (h : Within s t) (k : Within t u) : Within s u :=
  ⟨k.standing.trans h.standing, h.sent.trans k.sent, fun c => k.capacity (h.capacity c)⟩

/-- A change of the tracker's tables. -/
@[simp] theorem within_trk {s t : State} (x : Trk) (h : Within s t)
    (k : x.stallLimit = t.trk.stallLimit ∧ (t.trk.trains.length ≤ 48 → x.trains.length ≤ 48)) :
    Within s ⟨t.lmc, t.lst, t.clp, t.wlc, x, t.srg, t.tpc, t.inm, t.ans, t.pending⟩ := by
  refine within_trans h ⟨?_, List.prefix_refl _, fun c => ⟨c.1, c.2, c.3, c.4, c.5, c.6, c.7, c.8, c.9, c.10, c.11, c.12, k.2 c.13, c.14, c.15⟩⟩
  simp [Safety.standing, k]

/-- A change of the regulator's tables. -/
@[simp] theorem within_srg {s t : State} (x : Srg) (h : Within s t) (k : x.peak = t.srg.peak ∧ x.offPeak = t.srg.offPeak ∧
    x.onThreshold = t.srg.onThreshold ∧ x.offThreshold = t.srg.offThreshold) :
    Within s ⟨t.lmc, t.lst, t.clp, t.wlc, t.trk, x, t.tpc, t.inm, t.ans, t.pending⟩ := by
  refine within_trans h ⟨?_, List.prefix_refl _, fun c => ⟨c.1, c.2, c.3, c.4, c.5, c.6, c.7, c.8, c.9, c.10, c.11, c.12, c.13, c.14, c.15⟩⟩
  simp [Safety.standing, k]

/-- A change of the power controller's tables. -/
@[simp] theorem within_tpc {s t : State} (x : Tpc) (h : Within s t)
    (k : (t.tpc.queue.length ≤ 16 → x.queue.length ≤ 16) ∧ (t.tpc.nextCode < 256 → x.nextCode < 256)) :
    Within s ⟨t.lmc, t.lst, t.clp, t.wlc, t.trk, t.srg, x, t.inm, t.ans, t.pending⟩ :=
  within_trans h ⟨rfl, List.prefix_refl _,
    fun c => ⟨c.1, c.2, c.3, c.4, c.5, c.6, c.7, c.8, k.1 c.9, k.2 c.10, c.11, c.12, c.13, c.14, c.15⟩⟩

/-- A change of the incident manager's tables. -/
@[simp] theorem within_inm {s t : State} (x : Inm) (h : Within s t) (k : x.periods = t.inm.periods ∧ x.responses = t.inm.responses ∧
    (t.inm.incidents.length ≤ 32 → x.incidents.length ≤ 32) ∧
    ((∀ i ∈ t.inm.incidents, i.links.length ≤ 8) → ∀ i ∈ x.incidents, i.links.length ≤ 8)) :
    Within s ⟨t.lmc, t.lst, t.clp, t.wlc, t.trk, t.srg, t.tpc, x, t.ans, t.pending⟩ := by
  refine within_trans h ⟨?_, List.prefix_refl _,
    fun c => ⟨c.1, c.2, c.3, c.4, c.5, c.6, c.7, c.8, c.9, c.10, k.2.2.1 c.11, c.12, c.13, k.2.2.2 c.14, c.15⟩⟩
  simp [Safety.standing, k]

/-- A change of the announcement scheduler's tables. -/
@[simp] theorem within_ans {s t : State} (x : Ans) (h : Within s t)
    (k : x.templates = t.ans.templates ∧ (t.ans.entries.length ≤ 48 → x.entries.length ≤ 48)) :
    Within s ⟨t.lmc, t.lst, t.clp, t.wlc, t.trk, t.srg, t.tpc, t.inm, x, t.pending⟩ := by
  refine within_trans h ⟨?_, List.prefix_refl _,
    fun c => ⟨c.1, c.2, c.3, c.4, c.5, c.6, c.7, c.8, c.9, c.10, c.11, k.2 c.12, c.13, c.14, c.15⟩⟩
  simp [Safety.standing, k]

/-- A change of the link controller's queue and registry. -/
@[simp] theorem within_wlc {s t : State} (x : Wlc) (h : Within s t) (k : x.line = t.wlc.line ∧ x.drivesMark = t.wlc.drivesMark ∧
    x.inBuffer = t.wlc.inBuffer ∧ x.patterns = t.wlc.patterns ∧ x.armed = t.wlc.armed ∧
    (t.wlc.outQueue.length ≤ 32 → x.outQueue.length ≤ 32) ∧ (t.wlc.seqCounter < 16 → x.seqCounter < 16)) :
    Within s ⟨t.lmc, t.lst, t.clp, x, t.trk, t.srg, t.tpc, t.inm, t.ans, t.pending⟩ := by
  obtain ⟨k1, k2, k3, k4, k5, k6, k7⟩ := k
  refine within_trans h ⟨?_, List.prefix_refl _,
    fun c => ⟨c.1, k6 c.2, k7 c.3, k3 ▸ c.4, k4 ▸ c.5, c.6, c.7, c.8, c.9, c.10, c.11, c.12, c.13, c.14, c.15⟩⟩
  simp [Safety.standing, k1, k2, k3, k4, k5]

/-- Lines are added to those sent, or the flags change. -/
@[simp] theorem within_clp {s t : State} (x : Clp) (h : Within s t) (k : x.inbound = t.clp.inbound ∧ x.restartDue = t.clp.restartDue ∧
    t.clp.sent <+: x.sent) :
    Within s ⟨t.lmc, t.lst, x, t.wlc, t.trk, t.srg, t.tpc, t.inm, t.ans, t.pending⟩ := by
  obtain ⟨k1, k2, k3⟩ := k
  refine within_trans h ⟨?_, k3, fun c => ⟨k1 ▸ c.1, c.2, c.3, c.4, c.5, c.6, c.7, c.8, c.9, c.10, c.11, c.12, c.13, c.14, c.15⟩⟩
  simp [Safety.standing, k1, k2]

/-- A change of the mode state that neither enters nor leaves SURVEY. -/
@[simp] theorem within_lmc {s t : State} (x : Lmc) (h : Within s t) (k : x.count = t.lmc.count ∧ x.lineTime = t.lmc.lineTime ∧
    x.timeSet = t.lmc.timeSet ∧ x.boundaryDue = t.lmc.boundaryDue ∧ x.session = t.lmc.session ∧ x.staged = t.lmc.staged ∧
    x.working = t.lmc.working ∧ (x.mode == .survey) = (t.lmc.mode == .survey) ∧ x.escalation = t.lmc.escalation ∧
    x.startRecord = t.lmc.startRecord) :
    Within s ⟨x, t.lst, t.clp, t.wlc, t.trk, t.srg, t.tpc, t.inm, t.ans, t.pending⟩ := by
  obtain ⟨k1, k2, k3, k4, k5, k6, k7, k8, k9, k10⟩ := k
  refine within_trans h ⟨?_, List.prefix_refl _,
    fun c => ⟨c.1, c.2, c.3, c.4, c.5, k2 ▸ c.6, c.7, c.8, c.9, c.10, c.11, c.12, c.13, c.14, c.15⟩⟩
  simp [Safety.standing, k1, k2, k3, k4, k5, k6, k7, k8, k9, k10]

/-- A change of the store's waiting lists. -/
@[simp] theorem within_lst {s t : State} (x : Lst) (h : Within s t) (k : x.lineRegion = t.lst.lineRegion ∧ x.slots = t.lst.slots ∧
    x.buffer = t.lst.buffer ∧ x.templates = t.lst.templates ∧ x.responses = t.lst.responses ∧ x.permits = t.lst.permits ∧
    x.storedActive = t.lst.storedActive ∧ x.storedScheduled = t.lst.storedScheduled ∧ x.indicesDamaged = t.lst.indicesDamaged ∧
    x.active = t.lst.active ∧ x.scheduled = t.lst.scheduled ∧
    (t.lst.otherList.length ≤ 4 → x.otherList.length ≤ 4)) :
    Within s ⟨t.lmc, x, t.clp, t.wlc, t.trk, t.srg, t.tpc, t.inm, t.ans, t.pending⟩ := by
  obtain ⟨k1, k2, k3, k4, k5, k6, k7, k8, k9, k10, k11, k12⟩ := k
  refine within_trans h ⟨?_, List.prefix_refl _,
    fun c => ⟨c.1, c.2, c.3, c.4, c.5, c.6, k2 ▸ c.7, k12 c.8, c.9, c.10, c.11, c.12, c.13, c.14, k3 ▸ c.15⟩⟩
  simp [Safety.standing, k1, k2, k3, k4, k5, k6, k7, k8, k9, k10, k11]

/-- One thing after another for each member of a list. -/
@[simp] theorem within_forEach {s t : State} {α : Type} (l : List α) (f : α → State → State) (h : Within s t)
    (k : ∀ x u, Within u (f x u)) : Within s (forEach l f t) := by
  unfold forEach
  induction l generalizing t with
  | nil => exact h
  | cons x l ih => exact ih (within_trans h (k x t))

/-- One move after another. -/
theorem repeatWhile_within {s t : State} {move? : State → Option State} (fuel : Nat) (h : Within s t)
    (k : ∀ {u v}, move? u = some v → Within u v) : Within s (repeatWhile move? fuel t) := by
  induction fuel generalizing t with
  | zero => exact h
  | succ n ih =>
    unfold repeatWhile
    split
    · exact ih (within_trans h (k ‹_›))
    · exact h

end Sys2Proof.Laws
end

