-- ==== Sys2Proof/Laws/WithinOps.lean ====
section
/-!
SUPPORT. The operations of the tables, the notices, the frames and the store stay within.
-/

set_option linter.unusedSimpArgs false

namespace Sys2Proof.Laws

open Sys2Proof.Machine Sys2Proof.Safety

variable {s t : State}

@[simp] theorem modTrain_within (n : Nat) (f : Train → Train) (h : Within s t) : Within s (State.modTrain n f t) := by
  unfold State.modTrain
  (repeat' split) <;> simp [*]

@[simp] theorem modSec_within (x : Nat) (f : SecRec → SecRec) (h : Within s t) : Within s (State.modSec x f t) := by
  unfold State.modSec
  (repeat' split) <;> simp [*]

@[simp] theorem modBrk_within (b : Nat) (f : BrkRec → BrkRec) (h : Within s t) : Within s (State.modBrk b f t) := by
  unfold State.modBrk
  (repeat' split) <;> simp [*]

@[simp] theorem modUnit_within (a : Nat) (f : UnitRec → UnitRec) (h : Within s t) : Within s (State.modUnit a f t) := by
  unfold State.modUnit
  (repeat' split) <;> simp [*]

@[simp] theorem modPlat_within (p : Nat) (f : PlatRec → PlatRec) (h : Within s t) : Within s (State.modPlat p f t) := by
  unfold State.modPlat
  (repeat' split) <;> simp [*]

@[simp] theorem modTrip_within (n : Nat) (f : TripState → TripState) (h : Within s t) : Within s (State.modTrip n f t) := by
  unfold State.modTrip
  (repeat' split) <;> simp [*]

@[simp] theorem modPermit_within (id : Nat) (f : Permit → Permit) (h : Within s t) : Within s (State.modPermit id f t) := by
  unfold State.modPermit
  (repeat' split) <;> simp [*]

/-- A change of an incident's record that keeps the room of its links. -/
@[simp] theorem modIncident_within (id : Nat) (f : Incident → Incident) (h : Within s t)
    (k : ∀ i, i.links.length ≤ 8 → (f i).links.length ≤ 8) : Within s (State.modIncident id f t) := by
  unfold State.modIncident
  exact within_inm _ h ⟨rfl, rfl, fun n => by simpa using n, fun l => forall_modify _ _ k l⟩

@[simp] theorem modEntry_within (id : Nat) (f : Entry → Entry) (h : Within s t) : Within s (State.modEntry id f t) := by
  unfold State.modEntry
  (repeat' split) <;> simp [*]

@[simp] theorem modZone_within (st : Nat) (f : Zone → Zone) (h : Within s t) : Within s (State.modZone st f t) := by
  unfold State.modZone
  (repeat' split) <;> simp [*]

@[simp] theorem modDisplay_within (p : Nat) (f : Display → Display) (h : Within s t) : Within s (State.modDisplay p f t) := by
  unfold State.modDisplay
  (repeat' split) <;> simp [*]

@[simp] theorem modIsolation_within (x : Nat) (f : Isolation → Isolation) (h : Within s t) :
    Within s (State.modIsolation x f t) := by
  unfold State.modIsolation
  (repeat' split) <;> simp [*]

@[simp] theorem modCall_within (n : Nat) (f : Call → Call) (h : Within s t) : Within s (State.modCall n f t) := by
  unfold State.modCall
  (repeat' split) <;> simp [*]

@[simp] theorem modAuthority_within (n : Nat) (f : Authority → Authority) (h : Within s t) :
    Within s (State.modAuthority n f t) := by
  unfold State.modAuthority
  (repeat' split) <;> simp [*]

@[simp] theorem modDelivery_within (id st : Nat) (f : Delivery → Delivery) (h : Within s t) :
    Within s (State.modDelivery id st f t) := by
  unfold State.modDelivery
  (repeat' split) <;> simp [*]

@[simp] theorem setOcc_within (i : Nat) (o : Occupancy) (h : Within s t) : Within s (State.setOcc i o t) := by
  unfold State.setOcc
  (repeat' split) <;> simp [*]

@[simp] theorem send_within (l : OutLine) (h : Within s t) : Within s (State.send l t) := by
  unfold State.send
  (repeat' split) <;> simp [*]

@[simp] theorem sendAll_within (ls : List OutLine) (h : Within s t) : Within s (State.sendAll ls t) := by
  unfold State.sendAll
  (repeat' split) <;> simp [*]

@[simp] theorem notice_within (k : NoticeKind) (summary : List Field) (h : Within s t) : Within s (State.notice k summary t) := by
  unfold State.notice
  (repeat' split) <;> simp [*]

@[simp] theorem clearFlag_within (k : NoticeKind) (h : Within s t) : Within s (State.clearFlag k t) := by
  unfold State.clearFlag
  (repeat' split) <;> simp [*]

@[simp] theorem modeNotice_within (h : Within s t) : Within s (State.modeNotice t) := by
  unfold State.modeNotice
  (repeat' split) <;> simp [*]

@[simp] theorem reportHeld_within (h : Within s t) : Within s (State.reportHeld t) := by
  unfold State.reportHeld
  try dsimp only
  (repeat' split) <;> simp (maxDischargeDepth := 40) [*]

@[simp] theorem updateReadiness_within (h : Within s t) : Within s (State.updateReadiness t) := by
  unfold State.updateReadiness
  try dsimp only
  (repeat' split) <;> simp (maxDischargeDepth := 40) [*]


@[simp] theorem ok_within (tag : Nat) (fields : List Field) (h : Within s t) : Within s (State.ok tag fields t) := by
  unfold State.ok
  (repeat' split) <;> simp [*]

@[simp] theorem replyBlock_within (tag : Nat) (records : List (String × List Field)) (h : Within s t) :
    Within s (State.replyBlock tag records t) := by
  unfold State.replyBlock
  (repeat' split) <;> simp [*]

/-- A frame posted. -/
theorem postFrame_within {d : Nat} {b : Body} {u : State} (e : postFrame d b t = some u) (h : Within s t) : Within s u := by
  unfold postFrame at e
  split at e
  · rename_i k
    cases e
    exact within_wlc _ h ⟨rfl, rfl, rfl, rfl, rfl, fun _ => by rw [enqueue_length]; omega, fun _ => by dsimp only; omega⟩
  · cases e

@[simp] theorem postOrDrop_within (dest : Nat) (b : Body) (h : Within s t) : Within s (postOrDrop dest b t) := by
  unfold postOrDrop
  rcases e : postFrame dest b t with _ | u
  · exact h
  · exact postFrame_within e h

@[simp] theorem withdrawFrame_within (p : OutFrame → Bool) (h : Within s t) : Within s (withdrawFrame p t).2 := by
  unfold withdrawFrame
  split
  · exact h
  · split
    · simp [h]
    · exact within_wlc _ h ⟨rfl, rfl, rfl, rfl, rfl, fun k => Nat.le_trans (List.length_erase_le) k, fun k => k⟩

theorem withdrawFrame_within' {p : OutFrame → Bool} {w : Withdrawal} {u : State} (e : withdrawFrame p t = (w, u))
    (h : Within s t) : Within s u := by
  have k := withdrawFrame_within p h
  rwa [e] at k

@[simp] theorem postPolls_within (fuel : Nat) (h : Within s t) : Within s (postPolls fuel t) := by
  induction fuel generalizing t with
  | zero => exact h
  | succ n ih =>
    unfold postPolls
    split
    · split
      · split
        · have k := postFrame_within (s := s) ‹postFrame _ _ _ = some _› h
          exact ih (by simp [k])
        · exact h
      · exact h
    · exact h

@[simp] theorem polls_within (h : Within s t) : Within s (State.polls t) := by
  unfold State.polls
  (repeat' split) <;> simp [*]

@[simp] theorem startOp_within (h : Within s t) : Within s (State.startOp t) := by
  unfold State.startOp
  (repeat' split) <;> first | exact h | (rename_i e; exact within_lst _ h ⟨rfl, rfl, rfl, rfl, rfl, rfl, rfl, rfl, rfl, rfl, rfl, fun k => by first | exact k | (rw [e] at k; simp at k; dsimp only; omega)⟩)

@[simp] theorem placeIndex_within (h : Within s t) : Within s (State.placeIndex t) := by
  unfold State.placeIndex
  split
  · split
    · exact within_lst _ h ⟨rfl, rfl, rfl, rfl, rfl, rfl, rfl, rfl, rfl, rfl, rfl, fun k => k⟩
    · split
      · rename_i r
        refine within_lst _ h ⟨rfl, rfl, rfl, rfl, rfl, rfl, rfl, rfl, rfl, rfl, rfl, fun _ => ?_⟩
        simp [State.otherRoom] at r
        simp; omega
      · exact h
  · exact h

@[simp] theorem storeNext_within (h : Within s t) : Within s (State.storeNext t) := by
  unfold State.storeNext
  try dsimp only
  (repeat' split) <;> simp (maxDischargeDepth := 40) [*]

@[simp] theorem placePermitOp_within (op : StoreOp) (h : Within s t) : Within s (State.placePermitOp op t) := by
  unfold State.placePermitOp
  (repeat' split) <;> simp [*]

@[simp] theorem storeNotice_within (region : String) (entry : Value) (what : String) (h : Within s t) :
    Within s (State.storeNotice region entry what t) := by
  unfold State.storeNotice
  (repeat' split) <;> simp [*]

@[simp] theorem slotNotice_within (i : Nat) (h : Within s t) : Within s (State.slotNotice i t) := by
  unfold State.slotNotice
  (repeat' split) <;> simp [*]

@[simp] theorem setLearned_within (seg l : Nat) (h : Within s t) : Within s (State.setLearned seg l t) := by
  unfold State.setLearned
  (repeat' split) <;> simp [*]

end Sys2Proof.Laws
end

