-- ==== Sys2Proof/Laws/WithinAnnounce.lean ====
section
/-!
SUPPORT. The operations of the announcement scheduler stay within.
-/

set_option linter.unusedSimpArgs false

namespace Sys2Proof.Laws

open Sys2Proof.Machine Sys2Proof.Safety

variable {s t : State}

@[simp] theorem computeDisplay_within (force : Bool) (p : Nat) (h : Within s t) : Within s (computeDisplay force p t) := by
  unfold computeDisplay
  try dsimp only
  (repeat' split) <;>
    first
    | simp (maxDischargeDepth := 40) [*]
    | (have k := postFrame_within (s := s) ‹postFrame _ _ _ = some _› (by simp (maxDischargeDepth := 40) [h])
       simp (maxDischargeDepth := 40) [h, k])

@[simp] theorem displaysAll_within (h : Within s t) : Within s (State.displaysAll t) := by
  unfold State.displaysAll
  (repeat' split) <;> simp [*]

@[simp] theorem displaysAt_within (stations : List Nat) (h : Within s t) : Within s (State.displaysAt stations t) := by
  unfold State.displaysAt
  (repeat' split) <;> simp [*]

@[simp] theorem entryNotice_within (id : Nat) (event : String) (h : Within s t) : Within s (State.entryNotice id event t) := by
  unfold State.entryNotice
  (repeat' split) <;> simp [*]

@[simp] theorem removeEntry_within (id : Nat) (cause : RemovalCause) (h : Within s t) : Within s (removeEntry id cause t) := by
  unfold removeEntry
  split
  · exact h
  · have k := within_ans { t.ans with entries := t.ans.entries.filter (·.id != id) } h ⟨rfl, filter_length_mono _ _ _⟩
    simp (maxDischargeDepth := 40) [k]

@[simp] theorem checkEntry_within (id : Nat) (h : Within s t) : Within s (checkEntry id t) := by
  unfold checkEntry
  (repeat' split) <;> simp [*]

@[simp] theorem skipDelivery_within (id st : Nat) (h : Within s t) : Within s (skipDelivery id st t) := by
  unfold skipDelivery
  try dsimp only
  (repeat' split) <;> simp (maxDischargeDepth := 40) [*]

@[simp] theorem requeueDelivery_within (id st delay : Nat) (h : Within s t) : Within s (requeueDelivery id st delay t) := by
  unfold requeueDelivery
  (repeat' split) <;> simp [*]

@[simp] theorem playDone_within (id st : Nat) (h : Within s t) : Within s (playDone id st t) := by
  unfold playDone
  (repeat' split) <;> simp [*]

@[simp] theorem setZone_within (st : Nat) (new : ZoneState) (h : Within s t) : Within s (setZone st new t) := by
  unfold setZone
  (repeat' split) <;> simp [*]

@[simp] theorem playDelivery_within (e : Entry) (st : Nat) (override : Bool) (phrases : List Nat) (h : Within s t) :
    Within s (playDelivery e st override phrases t) := by
  unfold playDelivery
  try dsimp only
  (repeat' split) <;>
    first
    | simp (maxDischargeDepth := 40) [*]
    | (have k := postFrame_within (s := s) ‹postFrame _ _ _ = some _› (by simp (maxDischargeDepth := 40) [h])
       simp (maxDischargeDepth := 40) [h, k])

@[simp] theorem chooseAndPlay_within (st : Nat) (isLocal : Bool) (fuel : Nat) (h : Within s t) :
    Within s (chooseAndPlay st isLocal fuel t) := by
  induction fuel generalizing t with
  | zero => exact h
  | succ n ih =>
    unfold chooseAndPlay
    split
    · exact h
    · split
      · exact ih (by simp [h])
      · simp [h]

@[simp] theorem skipUnreachable_within (st : Nat) (h : Within s t) : Within s (skipUnreachable st t) := by
  unfold skipUnreachable
  (repeat' split) <;> simp [*]

@[simp] theorem selectZone_within (st : Nat) (h : Within s t) : Within s (selectZone st t) := by
  unfold selectZone
  (repeat' split) <;> simp [*]

@[simp] theorem freeZone_within (st : Nat) (toLocal : Bool) (h : Within s t) : Within s (freeZone st toLocal t) := by
  unfold freeZone
  (repeat' split) <;> simp [*]

@[simp] theorem settleStopped_within (id st : Nat) (how : Confirmation) (h : Within s t) :
    Within s (settleStopped id st how t) := by
  unfold settleStopped
  (repeat' split) <;> simp [*]

@[simp] theorem confirmStop_within (st : Nat) (how : Confirmation) (h : Within s t) : Within s (confirmStop st how t) := by
  unfold confirmStop
  try dsimp only
  (repeat' split) <;> simp (maxDischargeDepth := 40) [*]

@[simp] theorem stopZone_within (st : Nat) (next : Option Nat) (h : Within s t) : Within s (stopZone st next t) := by
  unfold stopZone
  try dsimp only
  (repeat' split) <;>
    first
    | simp (maxDischargeDepth := 40) [*]
    | (have k := withdrawFrame_within' (s := s) ‹withdrawFrame _ _ = _› (by simp (maxDischargeDepth := 40) [h])
       simp (maxDischargeDepth := 40) [h, k])

@[simp] theorem withdrawEntry_within (id : Nat) (cause : RemovalCause) (h : Within s t) : Within s (withdrawEntry id cause t) := by
  unfold withdrawEntry
  try dsimp only
  (repeat' split) <;> simp (maxDischargeDepth := 40) [*]

@[simp] theorem preempt_within (id st : Nat) (h : Within s t) : Within s (preempt id st t) := by
  unfold preempt
  (repeat' split) <;> simp [*]

@[simp] theorem offerDelivery_within (id st : Nat) (h : Within s t) : Within s (offerDelivery id st t) := by
  unfold offerDelivery
  (repeat' split) <;> simp [*]

/-- An entry is made where the table has room. -/
@[simp] theorem makeEntry_within (scope : List Nat) (n : Post) (h : Within s t) (k : Capacity s → t.ans.entries.length < 48) :
    Within s (makeEntry scope n t).2 := by
  have e : Within s { t with ans.entries := t.ans.entries ++ [newEntry t.now (nextId 255 (t.ans.entries.map (·.id)) t.ans.lastId) scope n],
                             ans.lastId := nextId 255 (t.ans.entries.map (·.id)) t.ans.lastId } :=
    ⟨h.standing, h.sent, fun c =>
      have d := h.capacity c
      ⟨d.1, d.2, d.3, d.4, d.5, d.6, d.7, d.8, d.9, d.10, d.11, by
        have := k c
        simp; omega, d.13, d.14, d.15⟩⟩
  unfold makeEntry
  dsimp only
  apply displaysAt_within
  apply within_forEach
  · simp [e]
  · simp (maxDischargeDepth := 40)

theorem postFrame_ans {d : Nat} {b : Body} {u v : State} (e : postFrame d b u = some v) : v.ans = u.ans := by
  unfold postFrame at e
  split at e <;> cases e
  rfl

theorem computeDisplay_entries (p : Nat) (u : State) : (computeDisplay false p u).ans.entries = u.ans.entries := by
  unfold computeDisplay
  dsimp only
  (repeat' split) <;> first | rfl | (have k := postFrame_ans ‹_›; simp [State.modDisplay, k])

/-- The entry table keeps its other members when one is removed. -/
theorem displaysAt_entries (l : List Nat) (u : State) : (u.displaysAt l).ans.entries = u.ans.entries := by
  unfold State.displaysAt forEach
  induction (u.desc.platforms.filter fun p => l.contains (platformStation p)) generalizing u with
  | nil => rfl
  | cons p ps ih =>
    rw [List.foldl_cons, ih]
    exact computeDisplay_entries p u

theorem notice_entries (k : NoticeKind) (l : List Field) (u : State) : (u.notice k l).ans.entries = u.ans.entries := by
  unfold State.notice
  split <;> rfl

/-- An eviction makes room. -/
theorem removeEntry_entries (id : Nat) (c : RemovalCause) (u : State) :
    (removeEntry id c u).ans.entries = if (u.entry? id).isSome then u.ans.entries.filter (·.id != id) else u.ans.entries := by
  unfold removeEntry
  split
  · simp [*]
  · simp [*, displaysAt_entries, State.entryNotice, notice_entries]

theorem entry_of_mem {u : State} {v : Entry} (m : v ∈ u.ans.entries) : (u.entry? v.id).isSome := by
  unfold State.entry?
  rw [List.find?_isSome]
  exact ⟨v, m, by simp⟩

/-- A post, made, evicting or refused; a table over its capacity only loses by it. -/
theorem postEntry_within {n : Post} {u : State} {a : PostAnswer} (e : postEntry n t = (a, u)) (h : Within s t) :
    Within s u := by
  unfold postEntry at e
  dsimp only at e
  split at e
  · cases e; exact h
  · split at e
    · rename_i k
      have m := makeEntry_within (s := s) ((ascending n.scope).filter fun st => (t.desc.station? st).isSome) n h (fun _ => k)
      cases e; exact m
    · split at e
      · cases e; exact h
      · rename_i v ev
        have mem : v ∈ t.ans.entries := (List.mem_filter.mp (leastBy_mem ev)).1
        have k (c : Capacity s) : (removeEntry v.id .evicted t).ans.entries.length < 48 := by
          rw [removeEntry_entries, if_pos (entry_of_mem mem)]
          exact Nat.lt_of_lt_of_le (filter_key_length_lt (key := Entry.id) mem) (h.capacity c).entries
        have m := makeEntry_within (s := s) ((ascending n.scope).filter fun st => (t.desc.station? st).isSome) n
          (removeEntry_within v.id .evicted h) k
        cases e; exact m

@[simp] theorem internalPost_within (n : Post) (h : Within s t) : Within s (internalPost n t).2 := by
  unfold internalPost
  split <;> rename_i e
  · exact postEntry_within e h
  · exact postEntry_within e h
  · have k := postEntry_within e h
    simp [k]

theorem internalPost_within' {n : Post} {o : Option Nat} {u : State} (e : internalPost n t = (o, u)) (h : Within s t) :
    Within s u := by
  have k := internalPost_within n h
  rwa [e] at k

theorem updateMinutes_within {id m : Nat} {u : State} (e : updateMinutes id m t = some u) (h : Within s t) : Within s u := by
  unfold updateMinutes at e
  (repeat' split at e) <;> cases e
  simp (maxDischargeDepth := 40) [h]

@[simp] theorem leavePlaying_within (st : Nat) (override : Bool) (h : Within s t) : Within s (leavePlaying st override t) := by
  unfold leavePlaying
  (repeat' split) <;> simp [*]

@[simp] theorem playOutcome_within (f : OutFrame) (id : Nat) (o : FrameEnd) (h : Within s t) : Within s (playOutcome f id o t) := by
  unfold playOutcome
  (repeat' split) <;> simp [*]

@[simp] theorem displayFailed_within (p : Nat) (h : Within s t) : Within s (displayFailed p t) := by
  unfold displayFailed
  (repeat' split) <;> simp [*]

@[simp] theorem takePlayEnd_within (st id : Nat) (o : PlayOutcome) (h : Within s t) : Within s (takePlayEnd st id o t) := by
  unfold takePlayEnd
  (repeat' split) <;> simp [*]

@[simp] theorem takeStationStatus_within (st : Nat) (taken : Bool) (clip : Nat) (h : Within s t) :
    Within s (takeStationStatus st taken clip t) := by
  unfold takeStationStatus
  try dsimp only
  (repeat' split) <;> simp (maxDischargeDepth := 40) [*]

@[simp] theorem staleZone_within (st : Nat) (h : Within s t) : Within s (staleZone st t) := by
  unfold staleZone
  try dsimp only
  (repeat' split) <;> simp (maxDischargeDepth := 40) [*]

@[simp] theorem announceMode_within (h : Within s t) : Within s (announceMode t) := by
  unfold announceMode
  try dsimp only
  (repeat' split) <;> simp (maxDischargeDepth := 40) [*]

@[simp] theorem arrivalEntries_within (train head : Nat) (h : Within s t) : Within s (arrivalEntries train head t) := by
  unfold arrivalEntries
  refine within_forEach _ _ h fun p u => ?_
  dsimp only
  (repeat' split) <;> simp

@[simp] theorem dropArrivals_within (train : Nat) (h : Within s t) : Within s (dropArrivals train t) := by
  unfold dropArrivals
  (repeat' split) <;> simp [*]

end Sys2Proof.Laws
end

