-- ==== Sys2Proof/Laws/WithinRegulate.lean ====
section
/-!
SUPPORT. The operations of the service regulator stay within.
-/

set_option linter.unusedSimpArgs false

namespace Sys2Proof.Laws

open Sys2Proof.Machine Sys2Proof.Safety

variable {s t : State}

@[simp] theorem trainNotice_within (n : Nat) (h : Within s t) : Within s (State.trainNotice n t) := by
  unfold State.trainNotice
  (repeat' split) <;> simp [*]

@[simp] theorem tripNotice_within (k : Nat) (h : Within s t) : Within s (State.tripNotice k t) := by
  unfold State.tripNotice
  (repeat' split) <;> simp [*]

@[simp] theorem setTrainState_within (n : Nat) (st : TrainState) (h : Within s t) : Within s (setTrainState n st t) := by
  unfold setTrainState
  try dsimp only
  (repeat' split) <;> simp (maxDischargeDepth := 40) [*]

theorem requestGrant_within {n x draw window : Nat} {b : Bool} {u : State} (e : requestGrant n x draw window t = (b, u))
    (h : Within s t) : Within s u := by
  unfold requestGrant at e
  dsimp only at e
  split at e <;> cases e <;> exact within_tpc _ h ⟨id, id⟩

theorem issueAuthority_within {n x : Nat} {c : Call} {b : Evaluation} {u : State} (e : issueAuthority n x c t = (b, u))
    (h : Within s t) : Within s u := by
  unfold issueAuthority at e
  dsimp only at e
  split at e <;> cases e
  · have k := postFrame_within (s := s) ‹postFrame _ _ _ = some _› (by simp [h])
    simp [k]
  · refine within_tpc _ ?_ ⟨id, id⟩
    simp [h]

theorem evaluateCall_within {n : Nat} {b : Evaluation} {u : State} (e : evaluateCall n t = (b, u)) (h : Within s t) :
    Within s u := by
  unfold evaluateCall at e
  split at e
  · cases e; exact h
  · split at e
    · cases e; exact h
    · split at e
      · cases e; simp [h]
      · split at e <;> rename_i k
        · exact issueAuthority_within e (requestGrant_within k h)
        · have m := requestGrant_within k h
          cases e
          simp [m]

@[simp] theorem evaluateList_within (fuel : Nat) (ns refused : List Nat) (h : Within s t) :
    Within s (evaluateList fuel ns refused t) := by
  induction fuel generalizing ns refused t with
  | zero => exact h
  | succ n ih =>
    cases ns with
    | nil => exact h
    | cons m ns =>
      unfold evaluateList
      split
      · exact ih _ _ h
      · split
        · exact ih _ _ h
        · split <;> exact ih _ _ (evaluateCall_within ‹_› h)

@[simp] theorem evaluateMany_within (ns : List Nat) (h : Within s t) : Within s (evaluateMany ns t) := by
  unfold evaluateMany
  (repeat' split) <;> simp [*]

@[simp] theorem reoffer_within (x : Nat) (h : Within s t) : Within s (reoffer x t) := by
  unfold reoffer
  (repeat' split) <;> simp [*]

@[simp] theorem evaluate_within (n : Nat) (h : Within s t) : Within s (evaluate n t) := by
  unfold evaluate
  split
  · have k := evaluateCall_within ‹_› h
    simp [k]
  · exact evaluateCall_within ‹_› h

@[simp] theorem dropGrant_within (n : Nat) (h : Within s t) : Within s (dropGrant n t) := by
  unfold dropGrant
  try dsimp only
  (repeat' split) <;> simp (maxDischargeDepth := 40) [*]

@[simp] theorem authorityEnded_within (n : Nat) (h : Within s t) : Within s (authorityEnded n t) := by
  unfold authorityEnded
  split <;> simp [h]

@[simp] theorem endWithdrawn_within (n : Nat) (h : Within s t) : Within s (endWithdrawn n t) := by
  unfold endWithdrawn
  try dsimp only
  (repeat' split) <;> simp (maxDischargeDepth := 40) [*]

@[simp] theorem sendRevoke_within (n : Nat) (a : Authority) (h : Within s t) : Within s (sendRevoke n a t) := by
  unfold sendRevoke
  (repeat' split) <;> simp [*]

@[simp] theorem revoke_within (n : Nat) (h : Within s t) : Within s (revoke n t) := by
  unfold revoke
  try dsimp only
  (repeat' split) <;>
    first
    | simp (maxDischargeDepth := 40) [*]
    | (have k := withdrawFrame_within' (s := s) ‹withdrawFrame _ _ = _› (by simp (maxDischargeDepth := 40) [h])
       simp (maxDischargeDepth := 40) [h, k])

@[simp] theorem releaseGrant_within (n : Nat) (h : Within s t) : Within s (releaseGrant n t) := by
  unfold releaseGrant
  try dsimp only
  (repeat' split) <;> simp (maxDischargeDepth := 40) [*]

@[simp] theorem authoriseOutcome_within (id : Nat) (o : FrameEnd) (h : Within s t) : Within s (authoriseOutcome id o t) := by
  unfold authoriseOutcome
  try dsimp only
  (repeat' split) <;> simp (maxDischargeDepth := 40) [*]

@[simp] theorem addTrainHold_within (n : Nat) (r : HoldReason) (h : Within s t) : Within s (addTrainHold n r t) := by
  unfold addTrainHold
  (repeat' split) <;> simp [*]

@[simp] theorem addPlatformHold_within (p : Nat) (r : HoldReason) (h : Within s t) : Within s (addPlatformHold p r t) := by
  unfold addPlatformHold
  (repeat' split) <;> simp [*]

@[simp] theorem removeTrainHold_within (n : Nat) (r : HoldReason) (h : Within s t) : Within s (removeTrainHold n r t) := by
  unfold removeTrainHold
  try dsimp only
  (repeat' split) <;> simp (maxDischargeDepth := 40) [*]

@[simp] theorem removePlatformHold_within (p : Nat) (r : HoldReason) (h : Within s t) : Within s (removePlatformHold p r t) := by
  unfold removePlatformHold
  (repeat' split) <;> simp [*]

@[simp] theorem dropDelay_within (n : Nat) (h : Within s t) : Within s (dropDelay n t) := by
  unfold dropDelay
  (repeat' split) <;> simp [*]

@[simp] theorem delayRule_within (n : Nat) (h : Within s t) : Within s (delayRule n t) := by
  unfold delayRule
  try dsimp only
  (repeat' split) <;>
    first
    | simp (maxDischargeDepth := 40) [*]
    | (have k := internalPost_within' (s := s) ‹internalPost _ _ = _› h
       simp (maxDischargeDepth := 40) [k])
    | exact updateMinutes_within ‹_› h

@[simp] theorem startCall_within (n p : Nat) (point : Option Nat) (h : Within s t) : Within s (startCall n p point t) := by
  unfold startCall
  (repeat' split) <;> simp [*]

@[simp] theorem abortCall_within (n : Nat) (h : Within s t) : Within s (abortCall n t) := by
  unfold abortCall
  (repeat' split) <;> simp [*]

@[simp] theorem loseTrip_within (n : Nat) (h : Within s t) : Within s (loseTrip n t) := by
  unfold loseTrip
  try dsimp only
  (repeat' split) <;> simp (maxDischargeDepth := 40) [*]

@[simp] theorem setTrip_within (k : Nat) (st : TripStatus) (cause : Option CancelCause) (h : Within s t) :
    Within s (setTrip k st cause t) := by
  unfold setTrip
  (repeat' split) <;> simp [*]

@[simp] theorem giveTrip_within (n k : Nat) (h : Within s t) : Within s (giveTrip n k t) := by
  unfold giveTrip
  try dsimp only
  (repeat' split) <;> simp (maxDischargeDepth := 40) [*]

@[simp] theorem assignTrip_within (n : Nat) (h : Within s t) : Within s (assignTrip n t) := by
  unfold assignTrip
  try dsimp only
  (repeat' split) <;> simp (maxDischargeDepth := 40) [*]

@[simp] theorem arrive_within (n p : Nat) (h : Within s t) : Within s (arrive n p t) := by
  unfold arrive
  try dsimp only
  (repeat' split) <;> simp (maxDischargeDepth := 40) [*]

@[simp] theorem recordDeparture_within (n p : Nat) (h : Within s t) : Within s (recordDeparture n p t) := by
  unfold recordDeparture
  try dsimp only
  (repeat' split) <;> simp (maxDischargeDepth := 40) [*]

@[simp] theorem lapseTrips_within (h : Within s t) : Within s (lapseTrips t) := by
  unfold lapseTrips
  (repeat' split) <;> simp [*]

@[simp] theorem rebuildTrips_within (h : Within s t) : Within s (rebuildTrips t) := by
  unfold rebuildTrips
  try dsimp only
  (repeat' split) <;> simp (maxDischargeDepth := 40) [*]

@[simp] theorem takeSample_within (n old new : Nat) (stalled : Bool) (h : Within s t) :
    Within s (takeSample n old new stalled t) := by
  unfold takeSample
  try dsimp only
  (repeat' split) <;> simp (maxDischargeDepth := 40) [*]

@[simp] theorem setEntryMark_within (n : Nat) (move : Bool) (h : Within s t) : Within s (setEntryMark n move t) := by
  unfold setEntryMark
  (repeat' split) <;> simp [*]

@[simp] theorem regulateMode_within (old new : Mode) (h : Within s t) : Within s (regulateMode old new t) := by
  unfold regulateMode
  (repeat' split) <;> simp [*]

end Sys2Proof.Laws
end

