-- ==== Sys2Proof/Laws/WithinPower.lean ====
section
/-!
SUPPORT. The operations of the traction power controller stay within, and so does the end of a step.
-/

set_option linter.unusedSimpArgs false

namespace Sys2Proof.Laws

open Sys2Proof.Machine Sys2Proof.Safety

variable {s t : State}

@[simp] theorem sectionNotice_within (x : Nat) (h : Within s t) : Within s (State.sectionNotice x t) := by
  unfold State.sectionNotice
  (repeat' split) <;> simp [*]

@[simp] theorem breakerNotice_within (b : Nat) (h : Within s t) : Within s (State.breakerNotice b t) := by
  unfold State.breakerNotice
  (repeat' split) <;> simp [*]

@[simp] theorem permitNotice_within (id : Nat) (h : Within s t) : Within s (State.permitNotice id t) := by
  unfold State.permitNotice
  (repeat' split) <;> simp [*]

@[simp] theorem recomputeBudget_within (x : Nat) (h : Within s t) : Within s (recomputeBudget x t) := by
  unfold recomputeBudget
  try dsimp only
  (repeat' split) <;> simp (maxDischargeDepth := 40) [*]

@[simp] theorem recomputeBudgets_within (xs : List Nat) (h : Within s t) : Within s (recomputeBudgets xs t) := by
  unfold recomputeBudgets
  (repeat' split) <;> simp [*]

@[simp] theorem setBreaker_within (b : Nat) (st : BreakerState) (h : Within s t) : Within s (setBreaker b st t) := by
  unfold setBreaker
  dsimp only
  split <;> simp [h]

@[simp] theorem modCmd_within (c : Cmd) (f : Cmd → Cmd) (h : Within s t) : Within s (State.modCmd c f t) := by
  unfold State.modCmd
  (repeat' split) <;> simp [*]

@[simp] theorem reportEnd_within (b : Nat) (a : Action) (origin : CmdOrigin) (o : CmdOutcome) (h : Within s t) :
    Within s (reportEnd b a origin o t) := by
  unfold reportEnd
  try dsimp only
  (repeat' split) <;> simp (maxDischargeDepth := 40) [*]

@[simp] theorem endCmd_within (c : Cmd) (o : CmdOutcome) (h : Within s t) : Within s (endCmd c o t) := by
  unfold endCmd
  exact reportEnd_within _ _ _ _ (within_tpc _ h ⟨filter_length_mono _ _ _, id⟩)

@[simp] theorem cancelSelect_within (unit number code : Nat) (h : Within s t) : Within s (cancelSelect unit number code t) := by
  unfold cancelSelect
  (repeat' split) <;> simp [*]

@[simp] theorem cancelCmd_within (c : Cmd) (h : Within s t) : Within s (cancelCmd c t) := by
  unfold cancelCmd
  try dsimp only
  (repeat' split) <;> simp (maxDischargeDepth := 40) [*]

@[simp] theorem cancelClose_within (b : Nat) (h : Within s t) : Within s (cancelClose b t) := by
  unfold cancelClose
  (repeat' split) <;> simp [*]

@[simp] theorem cancelCloses_within (x : Nat) (p : Cmd → Bool) (h : Within s t) : Within s (cancelCloses x p t) := by
  unfold cancelCloses
  try dsimp only
  (repeat' split) <;>
    first
    | simp (maxDischargeDepth := 40) [*]; done
    | (refine within_forEach _ _ (by simp (maxDischargeDepth := 40) [*]) fun _ _ => ?_
       try dsimp only
       (repeat' split) <;> simp (maxDischargeDepth := 40) [*])

@[simp] theorem cmdRoom_modBrk (b : Nat) (f : BrkRec → BrkRec) (u : State) : (u.modBrk b f).cmdRoom = u.cmdRoom := rfl

/-- A command placed where the queue has room. -/
@[simp] theorem pushCmd_within (b : Nat) (a : Action) (origin : CmdOrigin) (h : Within s t) (r : t.cmdRoom = true) :
    Within s (pushCmd b a origin t) := by
  unfold pushCmd
  refine within_tpc _ h ⟨fun _ => ?_, id⟩
  simp [State.cmdRoom] at r
  simp; omega

@[simp] theorem placeOwed_within (h : Within s t) : Within s (placeOwed t) := by
  unfold placeOwed
  try dsimp only
  (repeat' split) <;>
    first
    | simp (maxDischargeDepth := 40) [*]; done
    | (refine within_forEach _ _ (by simp (maxDischargeDepth := 40) [*]) fun _ _ => ?_
       try dsimp only
       (repeat' split) <;> simp (maxDischargeDepth := 40) [*])

@[simp] theorem startCmd_within (c : Cmd) (h : Within s t) : Within s (startCmd c t) := by
  have m : Within s { (t.modCmd c fun _ => { c with phase := .selecting, code := t.tpc.nextCode }) with
      tpc.nextCode := (t.tpc.nextCode + 1) % 256 } :=
    within_tpc _ (modCmd_within c _ h) ⟨id, fun _ => by dsimp only; omega⟩
  unfold startCmd
  dsimp only
  split
  · exact postFrame_within ‹_› m
  · exact endCmd_within _ _ m

theorem queueMove_within {u : State} (e : queueMove? t = some u) (h : Within s t) : Within s u := by
  unfold queueMove? at e
  split at e
  · cases e
    exact placeOwed_within h
  · obtain ⟨c, _, k⟩ := Option.map_eq_some_iff.mp e
    exact k ▸ startCmd_within c h

@[simp] theorem startCommands_within (h : Within s t) : Within s (startCommands t) :=
  repeatWhile_within 256 h fun e => queueMove_within e (within_refl _)

@[simp] theorem placeOpen_within (b : Nat) (origin : CmdOrigin) (h : Within s t) : Within s (placeOpen b origin t) := by
  unfold placeOpen
  try dsimp only
  (repeat' split) <;> simp (maxDischargeDepth := 40) [*]

@[simp] theorem placeOpens_within (x : Nat) (origin : CmdOrigin) (h : Within s t) : Within s (placeOpens x origin t) := by
  unfold placeOpens
  (repeat' split) <;> simp [*]

@[simp] theorem clearLockout_within (x : Nat) (h : Within s t) : Within s (clearLockout x t) := by
  unfold clearLockout
  (repeat' split) <;> simp [*]

@[simp] theorem removeSeq_within (x : Nat) (o : SeqOutcome) (h : Within s t) : Within s (removeSeq x o t) := by
  unfold removeSeq
  (repeat' split) <;> simp [*]

@[simp] theorem abandonSeq_within (x : Nat) (h : Within s t) : Within s (abandonSeq x t) := by
  unfold abandonSeq
  try dsimp only
  (repeat' split) <;> simp (maxDischargeDepth := 40) [*]

@[simp] theorem leaveSupply_within (x : Nat) (h : Within s t) : Within s (leaveSupply x t) := by
  unfold leaveSupply
  try dsimp only
  (repeat' split) <;> simp (maxDischargeDepth := 40) [*]

@[simp] theorem enterSupply_within (x : Nat) (h : Within s t) : Within s (enterSupply x t) := by
  unfold enterSupply
  try dsimp only
  (repeat' split) <;> simp (maxDischargeDepth := 40) [*]

@[simp] theorem when_within (b : Bool) (f : State → State) (h : Within s t) (k : b = true → Within s (f t)) :
    Within s (when b f t) := by
  unfold when
  split
  · exact k ‹_›
  · exact h

@[simp] theorem changeSection_within (x : Nat) (new : SectionState) (h : Within s t) : Within s (changeSection x new t) := by
  unfold changeSection
  try dsimp only
  (repeat' split) <;> simp (maxDischargeDepth := 40) [*]

@[simp] theorem deenergiseNow_within (x : Nat) (h : Within s t) : Within s (deenergiseNow x t) := by
  unfold deenergiseNow
  try dsimp only
  (repeat' split) <;> simp (maxDischargeDepth := 40) [*]

@[simp] theorem claimDeenergise_within (id x : Nat) (h : Within s t) : Within s (claimDeenergise id x t) := by
  unfold claimDeenergise
  (repeat' split) <;> simp [*]

@[simp] theorem dropClaim_within (id x : Nat) (h : Within s t) : Within s (dropClaim id x t) := by
  unfold dropClaim
  (repeat' split) <;> simp [*]

@[simp] theorem dropClaims_within (id : Nat) (h : Within s t) : Within s (dropClaims id t) := by
  unfold dropClaims
  (repeat' split) <;> simp [*]

@[simp] theorem holdSection_within (x : Nat) (h : Within s t) : Within s (holdSection x t) := by
  unfold holdSection
  try dsimp only
  (repeat' split) <;> simp (maxDischargeDepth := 40) [*]

@[simp] theorem nightHold_within (h : Within s t) : Within s (nightHold t) := by
  unfold nightHold
  try dsimp only
  (repeat' split) <;>
    first
    | simp (maxDischargeDepth := 40) [*]; done
    | (refine within_forEach _ _ (by simp (maxDischargeDepth := 40) [*]) fun _ _ => ?_
       try dsimp only
       (repeat' split) <;> simp (maxDischargeDepth := 40) [*])

@[simp] theorem setPermit_within (id : Nat) (f : Permit → Permit) (h : Within s t) : Within s (setPermit id f t) := by
  unfold setPermit
  (repeat' split) <;> simp [*]

@[simp] theorem endPermit_within (id : Nat) (o : PermitOutcome) (h : Within s t) : Within s (endPermit id o t) := by
  unfold endPermit
  (repeat' split) <;> simp [*]

@[simp] theorem afterPermit_within (x : Nat) (h : Within s t) : Within s (afterPermit x t) := by
  unfold afterPermit
  (repeat' split) <;> simp [*]

@[simp] theorem recordPermit_within (p : Permit) (h : Within s t) : Within s (recordPermit p t) := by
  unfold recordPermit
  (repeat' split) <;> simp [*]

@[simp] theorem dropIsolation_within (x : Nat) (h : Within s t) : Within s (State.dropIsolation x t) := by
  unfold State.dropIsolation
  (repeat' split) <;> simp [*]

@[simp] theorem failIsolation_within (x : Nat) (o : PermitOutcome) (h : Within s t) : Within s (failIsolation x o t) := by
  unfold failIsolation
  try dsimp only
  (repeat' split) <;> simp (maxDischargeDepth := 40) [*]

@[simp] theorem succeedIsolation_within (x : Nat) (h : Within s t) : Within s (succeedIsolation x t) := by
  unfold succeedIsolation
  (repeat' split) <;> simp [*]

@[simp] theorem enterOpening_within (x : Nat) (h : Within s t) : Within s (enterOpening x t) := by
  unfold enterOpening
  try dsimp only
  (repeat' split) <;> simp (maxDischargeDepth := 40) [*]

@[simp] theorem testClearing_within (h : Within s t) : Within s (testClearing t) := by
  unfold testClearing
  refine within_forEach _ _ h fun x u => ?_
  split <;> simp

theorem isolationMove_within {i : Isolation} {u : State} (e : isolationMove? t i = some u) (h : Within s t) : Within s u := by
  unfold isolationMove? at e
  (repeat' split at e) <;> cases e <;> simp [h]

@[simp] theorem failWaiting_within (xs : List Nat) (b : Nat) (o : CmdOutcome) (h : Within s t) : Within s (failWaiting xs b o t) := by
  unfold failWaiting
  (repeat' split) <;> simp [*]

@[simp] theorem placeSeq_within (x : Nat) (o : SeqOrigin) (h : Within s t) : Within s (placeSeq x o t) := by
  unfold placeSeq
  (repeat' split) <;> simp [*]

@[simp] theorem setStep_within (x : Nat) (st : SeqStep) (h : Within s t) : Within s (setStep x st t) := by
  unfold setStep
  (repeat' split) <;> simp [*]

@[simp] theorem failSeq_within (x : Nat) (o : SeqOutcome) (h : Within s t) : Within s (failSeq x o t) := by
  unfold failSeq
  try dsimp only
  (repeat' split) <;> simp (maxDischargeDepth := 40) [*]

@[simp] theorem succeedSeq_within (x : Nat) (h : Within s t) : Within s (succeedSeq x t) := by
  unfold succeedSeq
  (repeat' split) <;> simp [*]

@[simp] theorem advanceSeq_within (x : Nat) (after : Option Nat) (h : Within s t) : Within s (advanceSeq x after t) := by
  unfold advanceSeq
  try dsimp only
  (repeat' split) <;> simp (maxDischargeDepth := 40) [*]

theorem seqMove_within {q : Nat × SeqStep} {u : State} (e : seqMove? t q = some u) (h : Within s t) : Within s u := by
  unfold seqMove? at e
  split at e
  · cases e
    exact advanceSeq_within _ _ h
  · split at e
    · rename_i r
      cases e
      exact setStep_within _ _ (pushCmd_within _ _ _ h (Bool.and_eq_true_iff.mp r).1)
    · cases e
  · cases e
  · split at e <;> cases e
    exact succeedSeq_within _ h

@[simp] theorem startSeq_within (r : SecRec) (h : Within s t) : Within s (startSeq r t) := by
  unfold startSeq
  try dsimp only
  (repeat' split) <;> simp (maxDischargeDepth := 40) [*]

@[simp] theorem takeReport_within (r : Report) (h : Within s t) : Within s (takeReport r t) := by
  unfold takeReport
  try dsimp only
  (repeat' split) <;> simp (maxDischargeDepth := 40) [*]

theorem tpcMove_within {u : State} (e : tpcMove? t = some u) (h : Within s t) : Within s u := by
  unfold tpcMove? at e
  split at e
  · cases e
    exact takeReport_within _ (within_tpc _ h ⟨id, id⟩)
  · split at e
    · cases e
      exact placeOwed_within h
    · rcases orElse_some e with e | e
      · obtain ⟨q, _, k⟩ := List.exists_of_findSome?_eq_some e
        exact seqMove_within k h
      · rcases orElse_some e with e | e
        · obtain ⟨c, _, k⟩ := Option.map_eq_some_iff.mp e
          exact k ▸ startCmd_within c h
        · rcases orElse_some e with e | e
          · obtain ⟨r, _, k⟩ := Option.map_eq_some_iff.mp e
            exact k ▸ startSeq_within r h
          · obtain ⟨i, _, k⟩ := List.exists_of_findSome?_eq_some e
            exact isolationMove_within k h

@[simp] theorem tpcSettle_within (h : Within s t) : Within s (tpcSettle t) :=
  repeatWhile_within 2048 h fun e => tpcMove_within e (within_refl _)

@[simp] theorem conclude_within (h : Within s t) : Within s (State.conclude t) := by
  unfold State.conclude
  try dsimp only
  (repeat' split) <;> simp (maxDischargeDepth := 40) [*]

end Sys2Proof.Laws
end

