-- ==== Sys2Proof/Laws/WithinIncident.lean ====
section
/-!
SUPPORT. The operations of the incident manager stay within, and so does a change of mode that neither enters nor leaves SURVEY
or the NIGHT modes.
-/

set_option linter.unusedSimpArgs false

namespace Sys2Proof.Laws

open Sys2Proof.Machine Sys2Proof.Safety

variable {s t : State}

@[simp] theorem restartStall_within (n : Nat) (h : Within s t) : Within s (restartStall n t) := by
  unfold restartStall
  (repeat' split) <;> simp [*]

@[simp] theorem stopStalls_within (h : Within s t) : Within s (stopStalls t) := by
  unfold stopStalls
  (repeat' split) <;> simp [*]

@[simp] theorem trackMode_within (old new : Mode) (h : Within s t) : Within s (trackMode old new t) := by
  unfold trackMode
  (repeat' split) <;> simp [*]

/-- A change of mode that neither enters nor leaves SURVEY nor the NIGHT modes. -/
theorem modeChange_within (new : Mode) (cause : ModeCause) (incident : Option Nat) (h : Within s t)
    (n : new ≠ .survey) (o : t.lmc.mode ≠ .survey) (k : (isNight t.lmc.mode && !isNight new) = false) :
    Within s (modeChange new cause incident t) := by
  unfold modeChange
  dsimp only
  rw [if_neg n, k]
  have e : Within s { t with lmc.mode := new, lmc.lastChange := { old := some t.lmc.mode, new := new, cause := cause, time := t.lmc.lineTime, incident := incident }, lmc.readiness := none } :=
    within_lmc _ h (by simp [beq_eq_false_iff_ne.mpr n, beq_eq_false_iff_ne.mpr o])
  simp (maxDischargeDepth := 40) [when, e]
  split <;> simp (maxDischargeDepth := 40) [e]

@[simp] theorem escalate_within (id : Nat) (h : Within s t) : Within s (escalate id t) := by
  unfold escalate
  split
  · rename_i m
    exact modeChange_within _ _ _ h (by decide) (by simp [m]) (by simp [m, isNight])
  · rename_i m
    split
    · exact modeChange_within _ _ _ h (by decide) (by simp [m]) (by simp [m, isNight])
    · exact h
  · exact h

@[simp] theorem incidentNotice_within (id : Nat) (h : Within s t) : Within s (State.incidentNotice id t) := by
  unfold State.incidentNotice
  (repeat' split) <;> simp [*]

/-- A link recorded keeps the room of the links (R142). -/
theorem addLink_room (l : IncLink) (i : Incident) (h : i.links.length ≤ 8) : (addLink l i).links.length ≤ 8 := by
  unfold addLink
  split
  · exact h
  · split
    · simp only [List.length_append, List.length_singleton]
      omega
    · exact h

@[simp] theorem linked_within (id : Nat) (l : IncLink) (act : State → State) (k : Within s (act t)) :
    Within s (linked id l act t) := modIncident_within _ _ k (addLink_room l)

@[simp] theorem withdrawOf_within (id e : Nat) (h : Within s t) : Within s (withdrawOf id e t) := by
  unfold withdrawOf
  (repeat' split) <;> simp [*]

@[simp] theorem announceIncident_within (i : Incident) (e : Response) (template : Nat) (r : Reach) (h : Within s t) :
    Within s (announceIncident i e template r t) := by
  unfold announceIncident
  dsimp only
  have w : Within s (forEach (announceLinks (((t.incident? i.id).map (·.links)).getD [])) (fun n u => withdrawOf i.id n u) t) :=
    within_forEach _ _ h fun _ _ => withdrawOf_within _ _ (within_refl _)
  split <;> rename_i k
  · exact modIncident_within _ _
      (internalPost_within' k (modIncident_within _ _ w fun _ l => filter_length_mono _ _ _ l)) (addLink_room _)
  · exact internalPost_within' k (modIncident_within _ _ w fun _ l => filter_length_mono _ _ _ l)

@[simp] theorem applyResponse_within (id : Nat) (h : Within s t) : Within s (applyResponse id t) := by
  unfold applyResponse
  try dsimp only
  (repeat' split) <;> simp (maxDischargeDepth := 40) [*]

@[simp] theorem repeatRaise_within (i : Incident) (severity : Nat) (h : Within s t) : Within s (repeatRaise i severity t) := by
  unfold repeatRaise
  dsimp only
  refine when_within _ _ (incidentNotice_within _ (modIncident_within _ _ h fun j l => ?_)) fun _ =>
    applyResponse_within _ (incidentNotice_within _ (modIncident_within _ _ h fun j l => ?_)) <;>
  · split <;> exact l

/-- An incident is made where the table has room. -/
@[simp] theorem makeIncident_within (c : IncClass) (severity : Nat) (l : Location) (o : RaiseOrigin) (h : Within s t)
    (k : Capacity s → t.inm.incidents.length < 32) : Within s (makeIncident c severity l o t).2 := by
  unfold makeIncident
  dsimp only
  apply applyResponse_within
  apply incidentNotice_within
  refine ⟨h.standing, h.sent, fun d => ?_⟩
  have e := h.capacity d
  refine ⟨e.1, e.2, e.3, e.4, e.5, e.6, e.7, e.8, e.9, e.10, by have := k d; simp; omega, e.12, e.13, ?_, e.15⟩
  intro i m
  rcases List.mem_append.mp m with m | m
  · exact e.14 i m
  · rw [List.mem_singleton.mp m]
    exact Nat.zero_le 8

@[simp] theorem dropRaise_within (c : IncClass) (l : Location) (h : Within s t) : Within s (dropRaise c l t) := by
  unfold dropRaise
  (repeat' split) <;> simp [*]

/-- A raise: an incident repeated, made, made in place of a closed one, or dropped. -/
@[simp] theorem raiseIncident_within (c : IncClass) (severity : Nat) (l : Location) (o : RaiseOrigin) (h : Within s t) :
    Within s (raiseIncident c severity l o t).2 := by
  unfold raiseIncident
  split
  · simp [h]
  · split
    · exact makeIncident_within _ _ _ _ h (fun _ => ‹_›)
    · split
      · rename_i old e
        have mem := List.mem_of_find?_eq_some e
        refine makeIncident_within _ _ _ _ (within_inm _ h
          ⟨rfl, rfl, filter_length_mono _ _ _, fun l i m => l i (List.mem_filter.mp m).1⟩) fun d => ?_
        exact Nat.lt_of_lt_of_le (filter_key_length_lt (key := Incident.id) mem) (h.capacity d).incidents
      · simp [h]

theorem raiseIncident_within' {c : IncClass} {severity : Nat} {l : Location} {o : RaiseOrigin} {r : Raised} {u : State}
    (e : raiseIncident c severity l o t = (r, u)) (h : Within s t) : Within s u := by
  have k := raiseIncident_within c severity l o h
  rwa [e] at k

@[simp] theorem raised_within (c : IncClass) (severity : Nat) (l : Location) (o : RaiseOrigin) (h : Within s t) :
    Within s (raised c severity l o t) := raiseIncident_within c severity l o h

@[simp] theorem closeIncident_within (id : Nat) (cause : CloseCause) (h : Within s t) : Within s (closeIncident id cause t).2 := by
  unfold closeIncident
  split
  · exact h
  · dsimp only
    have k := fun (u : State) (w : Within s u) => incidentNotice_within id
      (modIncident_within id (closeRecord t.lmc.lineTime cause) w fun _ _ => Nat.zero_le 8)
    split
    · exact internalPost_within _ (k _ (by simp (maxDischargeDepth := 40) [h]))
    · exact k _ (by simp (maxDischargeDepth := 40) [h])

@[simp] theorem autoClose_within (c : IncClass) (l : Location) (h : Within s t) : Within s (autoClose c l t) := by
  unfold autoClose
  (repeat' split) <;> simp only [h, closeIncident_within]

end Sys2Proof.Laws
end

