-- ==== Sys2Proof/Laws/WithinTrack.lean ====
section
/-!
SUPPORT. What the power and track units report, and what the timers of trains do, stays within.
-/

set_option linter.unusedSimpArgs false

namespace Sys2Proof.Laws

open Sys2Proof.Machine Sys2Proof.Safety

variable {s t : State}

@[simp] theorem takeReports_within (h : Within s t) : Within s (takeReports t) := by
  unfold takeReports
  (repeat' split) <;> simp [*]

@[simp] theorem powerRaise_within (c : IncClass) (severity x : Nat) (h : Within s t) : Within s (powerRaise c severity x t) := by
  unfold powerRaise
  (repeat' split) <;> simp [*]

@[simp] theorem correct_within (x : Nat) (closed : List Nat) (h : Within s t) : Within s (correct x closed t) := by
  unfold correct
  try dsimp only
  (repeat' split) <;> simp (maxDischargeDepth := 40) [*]

@[simp] theorem actOnVoltage_within (x : Nat) (was : SectionState) (old new : Voltage) (closed : List Nat)
    (h : Within s t) : Within s (actOnVoltage x was old new closed t) := by
  unfold actOnVoltage
  try dsimp only
  (repeat' split) <;> simp (maxDischargeDepth := 40) [*]

@[simp] theorem reassess_within (closed : List Nat) (x : Nat) (h : Within s t) : Within s (reassess closed x t) := by
  unfold reassess
  (repeat' split) <;> simp [*]

@[simp] theorem tripSection_within (x : Nat) (r : SecRec) (h : Within s t) : Within s (tripSection x r t) := by
  unfold tripSection
  try dsimp only
  (repeat' split) <;> simp (maxDischargeDepth := 40) [*]

@[simp] theorem tripAgain_within (x : Nat) (r : SecRec) (h : Within s t) : Within s (tripAgain x r t) := by
  unfold tripAgain
  try dsimp only
  (repeat' split) <;> simp (maxDischargeDepth := 40) [*]

@[simp] theorem takeTrip_within (b : Nat) (h : Within s t) : Within s (takeTrip b t) := by
  unfold takeTrip
  try dsimp only
  (repeat' split) <;> simp (maxDischargeDepth := 40) [*]

@[simp] theorem endMove_within (b : Nat) (target : Position) (origin : CmdOrigin) (st : BreakerState) (o : CmdOutcome)
    (h : Within s t) : Within s (endMove b target origin st o t) := by
  unfold endMove
  (repeat' split) <;> simp [*]

@[simp] theorem passBreakers_within (e : BreakerEntry) (h : Within s t) : Within s (passBreakers e t) := by
  unfold passBreakers
  (repeat' split) <;> simp [*]

@[simp] theorem isolationsSee_within (closed : List Nat) (h : Within s t) : Within s (isolationsSee closed t) := by
  unfold isolationsSee
  try dsimp only
  (repeat' split) <;>
    first
    | simp (maxDischargeDepth := 40) [*]; done
    | (refine within_forEach _ _ (by simp (maxDischargeDepth := 40) [*]) fun _ _ => ?_
       try dsimp only
       (repeat' split) <;> simp (maxDischargeDepth := 40) [*])

@[simp] theorem passTrips_within (before : State) (l : List BreakerEntry) (h : Within s t) : Within s (passTrips before l t) := by
  unfold passTrips
  dsimp only
  refine takeReports_within (within_forEach _ _ (by simp [h]) fun e u => ?_)
  split <;> simp

@[simp] theorem takePowerStatus_within (unit : Nat) (payload : List Octet) (h : Within s t) :
    Within s (takePowerStatus unit payload t) := by
  unfold takePowerStatus
  try dsimp only
  (repeat' split) <;> simp (maxDischargeDepth := 40) [*]

@[simp] theorem failCommands_within (unit : Nat) (h : Within s t) : Within s (failCommands unit t) := by
  unfold failCommands
  try dsimp only
  (repeat' split) <;>
    first
    | simp (maxDischargeDepth := 40) [*]; done
    | (refine within_forEach _ _ (by simp (maxDischargeDepth := 40) [*]) fun _ _ => ?_
       try dsimp only
       (repeat' split) <;> simp (maxDischargeDepth := 40) [*])

@[simp] theorem loseBreaker_within (b : Nat) (h : Within s t) : Within s (loseBreaker b t) := by
  unfold loseBreaker
  (repeat' split) <;> simp (maxDischargeDepth := 40) [*]

@[simp] theorem stalePowerUnit_within (unit : Nat) (h : Within s t) : Within s (stalePowerUnit unit t) := by
  unfold stalePowerUnit
  try dsimp only
  (repeat' split) <;> simp (maxDischargeDepth := 40) [*]

@[simp] theorem selectFailed_within (c : Cmd) (h : Within s t) : Within s (selectFailed c t) := by
  unfold selectFailed
  try dsimp only
  simp (maxDischargeDepth := 40) [*]

@[simp] theorem selectOutcome_within (f : OutFrame) (number code : Nat) (o : FrameEnd) (h : Within s t) :
    Within s (selectOutcome f number code o t) := by
  unfold selectOutcome
  (repeat' split) <;> simp [*]

@[simp] theorem startMove_within (c : Cmd) (h : Within s t) : Within s (startMove c t) := by
  unfold startMove
  dsimp only
  have k : Within s { t with tpc.queue := t.tpc.queue.filter fun d => !c.same d } :=
    within_tpc _ h ⟨filter_length_mono _ _ _, id⟩
  simp [k]

@[simp] theorem operateOutcome_within (f : OutFrame) (code : Nat) (o : FrameEnd) (h : Within s t) :
    Within s (operateOutcome f code o t) := by
  unfold operateOutcome
  (repeat' split) <;> simp [*]

@[simp] theorem takeSelectEcho_within (unit : Nat) (payload : List Octet) (h : Within s t) :
    Within s (takeSelectEcho unit payload t) := by
  unfold takeSelectEcho
  try dsimp only
  (repeat' split) <;>
    first
    | simp (maxDischargeDepth := 40) [*]
    | (have k := postFrame_within (s := s) ‹postFrame _ _ _ = some _› (by simp (maxDischargeDepth := 40) [h])
       simp (maxDischargeDepth := 40) [h, k])

@[simp] theorem selectWindowExpire_within (c : Cmd) (h : Within s t) : Within s (selectWindowExpire c t) := by
  unfold selectWindowExpire
  try dsimp only
  (repeat' split) <;> simp (maxDischargeDepth := 40) [*]

@[simp] theorem operateLimitExpire_within (b : Nat) (h : Within s t) : Within s (operateLimitExpire b t) := by
  unfold operateLimitExpire
  try dsimp only
  (repeat' split) <;> simp (maxDischargeDepth := 40) [*]

@[simp] theorem recloseExpire_within (x : Nat) (h : Within s t) : Within s (recloseExpire x t) := by
  unfold recloseExpire
  try dsimp only
  (repeat' split) <;> simp (maxDischargeDepth := 40) [*]

@[simp] theorem isolationConfirmExpire_within (x : Nat) (h : Within s t) : Within s (isolationConfirmExpire x t) := by
  unfold isolationConfirmExpire
  try dsimp only
  (repeat' split) <;> simp (maxDischargeDepth := 40) [*]

/-- One change of the tables after another. -/
theorem foldTables_within {α : Type} (l : List α) (f : α → State → Tables) (a : List TrackAct) (h : Within s t)
    (k : ∀ x u, Within u (f x u).1) : Within s (l.foldl (fun acc x => Tables.andThen acc (f x)) ((t, a) : Tables)).1 := by
  induction l generalizing t a with
  | nil => exact h
  | cons x l ih => exact ih _ (within_trans h (k x t))

@[simp] theorem eachTables_within {α : Type} (l : List α) (f : α → State → Tables) (h : Within s t)
    (k : ∀ x u, Within u (f x u).1) : Within s (eachTables l f t).1 := foldTables_within l f [] h k

@[simp] theorem trackDiscrepancy_within (l : Location) (h : Within s t) : Within s (trackDiscrepancy l t) := by
  unfold trackDiscrepancy
  (repeat' split) <;> simp [*]

@[simp] theorem actOn_within (a : TrackAct) (h : Within s t) : Within s (actOn a t) := by
  unfold actOn
  split <;> simp [h]

@[simp] theorem loseTrain_within (n : Nat) (h : Within s t) : Within s (loseTrain n t) := by
  unfold loseTrain
  (repeat' split) <;> simp [*]

@[simp] theorem takeSegment_within (mine : Option Nat) (position : List Nat) (g : Nat) (h : Within s t) :
    Within s (takeSegment mine position g t).1 := by
  unfold takeSegment
  try dsimp only
  (repeat' split) <;> simp (maxDischargeDepth := 40) [*]

@[simp] theorem moved_within (n : Nat) (h : Within s t) : Within s (moved n t).1 := by
  unfold moved
  try dsimp only
  (repeat' split) <;> simp (maxDischargeDepth := 40) [*]

@[simp] theorem leave_within (g : Nat) (h : Within s t) : Within s (leave g t).1 := by
  unfold leave
  try dsimp only
  (repeat' split) <;> simp (maxDischargeDepth := 40) [*]

@[simp] theorem makeUnidentified_within (position : List Nat) (g : Nat) (h : Within s t) :
    Within s (makeUnidentified position g t).1 := by
  unfold makeUnidentified
  try dsimp only
  (repeat' split) <;> simp (maxDischargeDepth := 40) [*]

/-- A train joins the table where it has room. -/
theorem createTrain_within (n g : Nat) (h : Within s t) (r : t.trk.trains.length < 48) : Within s (createTrain n g t) :=
  within_trk _ h ⟨rfl, fun _ => Nat.le_trans (insertBy_length_le _ _ _) r⟩

/-- A placing, with room for the train that it creates. -/
@[simp] theorem placeTables_within (n g : Nat) (tail : Option Nat) (kind : Placing) (h : Within s t)
    (r : kind = .creation → t.trk.trains.length < 48) : Within s (placeTables n g tail kind t).1 := by
  have k : Within s (when (kind == .creation) (createTrain n g) t) :=
    when_within _ _ h fun e => createTrain_within n g h (r (eq_of_beq e))
  unfold placeTables
  dsimp only
  (repeat' split) <;> simp (maxDischargeDepth := 40) [h, k]

@[simp] theorem reportState_within (n : Nat) (h : Within s t) : Within s (reportState n t) := by
  unfold reportState
  try dsimp only
  (repeat' split) <;> simp (maxDischargeDepth := 40) [*]

@[simp] theorem departAuthority_within (n : Nat) (h : Within s t) : Within s (departAuthority n t) := by
  unfold departAuthority
  (repeat' split) <;> simp [*]

@[simp] theorem depart_within (n p : Nat) (h : Within s t) : Within s (depart n p t) := by
  unfold depart
  try dsimp only
  (repeat' split) <;> simp (maxDischargeDepth := 40) [*]

@[simp] theorem openWindow_within (x : Nat) (h : Within s t) : Within s (openWindow x t) := by
  unfold openWindow
  (repeat' split) <;> simp [*]

@[simp] theorem entryPower_within (e : HeadEntry) (h : Within s t) : Within s (entryPower e t) := by
  unfold entryPower
  (repeat' split) <;> simp [*]

@[simp] theorem entryService_within (e : HeadEntry) (h : Within s t) : Within s (entryService e t) := by
  unfold entryService
  try dsimp only
  (repeat' split) <;> simp (maxDischargeDepth := 40) [*]

@[simp] theorem reportEntry_within (e : HeadEntry) (h : Within s t) : Within s (reportEntry e t) := by
  unfold reportEntry
  try dsimp only
  (repeat' split) <;> simp (maxDischargeDepth := 40) [*]

@[simp] theorem reportOccupancy_within (q : Nat × Occupancy × Occupancy) (h : Within s t) : Within s (reportOccupancy q t) := by
  unfold reportOccupancy
  try dsimp only
  (repeat' split) <;> simp (maxDischargeDepth := 40) [*]

@[simp] theorem reportChanges_within (before after : State) (entry : Option HeadEntry) (h : Within s t) :
    Within s (reportChanges before after entry t) := by
  unfold reportChanges
  try dsimp only
  (repeat' split) <;> simp (maxDischargeDepth := 40) [*]

@[simp] theorem trackStep_within (change : State → Tables) (entry : Option HeadEntry) (k : Within s (change t).1) :
    Within s (trackStep change entry t) := by
  unfold trackStep
  simp (maxDischargeDepth := 40) [k]

@[simp] theorem place_within (n g : Nat) (tail : Option Nat) (kind : Placing) (h : Within s t)
    (r : kind = .creation → t.trk.trains.length < 48) : Within s (place n g tail kind t) := by
  unfold place
  exact trackStep_within _ _ (placeTables_within n g tail kind h r)

@[simp] theorem relocate_within (n g : Nat) (tail : Option Nat) (h : Within s t) : Within s (relocate n g tail t) := by
  unfold relocate
  (repeat' split) <;> simp [*]

@[simp] theorem unidentify_within (segs : List Nat) (at_ : Nat) (h : Within s t) : Within s (unidentify segs at_ t) := by
  unfold unidentify
  try dsimp only
  (repeat' split) <;> simp (maxDischargeDepth := 40) [*]

@[simp] theorem numberedEntry_within (n g : Nat) (h : Within s t) : Within s (numberedEntry n g t) := by
  unfold numberedEntry
  (repeat' split) <;> simp_all

@[simp] theorem unnumberedEntry_within (g : Nat) (h : Within s t) : Within s (unnumberedEntry g t) := by
  unfold unnumberedEntry
  (repeat' split) <;> simp [*]

@[simp] theorem takeTrackEvent_within (unit : Nat) (payload : List Octet) (h : Within s t) :
    Within s (takeTrackEvent unit payload t) := by
  unfold takeTrackEvent
  (repeat' split) <;> simp [*]

@[simp] theorem occupiedUnnumbered_within (g : Nat) (h : Within s t) : Within s (occupiedUnnumbered g t).1 := by
  unfold occupiedUnnumbered
  try dsimp only
  (repeat' split) <;> simp (maxDischargeDepth := 40) [*]

@[simp] theorem numberedStatus_within (m : Nat) (segs : List Nat) (h : Within s t) : Within s (numberedStatus m segs t) := by
  unfold numberedStatus
  try dsimp only
  (repeat' split) <;> simp_all (maxDischargeDepth := 40)

@[simp] theorem takeTrackStatus_within (unit : Nat) (payload : List Octet) (h : Within s t) :
    Within s (takeTrackStatus unit payload t) := by
  unfold takeTrackStatus
  try dsimp only
  (repeat' split) <;> simp (maxDischargeDepth := 40) [*]

@[simp] theorem staleTrain_within (covered : List Nat) (r₀ : Train) (h : Within s t) : Within s (staleTrain covered r₀ t) := by
  unfold staleTrain
  (repeat' split) <;> simp [*]

@[simp] theorem staleTrackUnit_within (unit : Nat) (h : Within s t) : Within s (staleTrackUnit unit t) := by
  unfold staleTrackUnit
  try dsimp only
  (repeat' split) <;> simp (maxDischargeDepth := 40) [*]

@[simp] theorem stallExpire_within (n : Nat) (h : Within s t) : Within s (stallExpire n t) := by
  unfold stallExpire
  try dsimp only
  (repeat' split) <;> simp (maxDischargeDepth := 40) [*]

@[simp] theorem dropService_within (r₀ : Train) (h : Within s t) : Within s (dropService r₀ t) := by
  unfold dropService
  try dsimp only
  (repeat' split) <;> simp (maxDischargeDepth := 40) [*]

@[simp] theorem withdrawTrain_within (r₀ : Train) (h : Within s t) : Within s (withdrawTrain r₀ t) := by
  unfold withdrawTrain
  dsimp only
  refine within_forEach _ _ (displaysAll_within (dropArrivals_within _ (dropGrant_within _ (trainNotice_within _ ?_))))
    fun q u => reportOccupancy_within q (within_refl u)
  exact within_trk _ (dropService_within r₀ (within_forEach _ _ h fun g u => setOcc_within g _ (within_refl u)))
    ⟨rfl, filter_length_mono _ _ _⟩

@[simp] theorem platformDiscrepancy_within (p severity : Nat) (o : RaiseOrigin) (h : Within s t) :
    Within s (platformDiscrepancy p severity o t) := by
  unfold platformDiscrepancy
  (repeat' split) <;> simp [*]

@[simp] theorem retryExpire_within (n : Nat) (h : Within s t) : Within s (retryExpire n t) := by
  unfold retryExpire
  try dsimp only
  (repeat' split) <;> simp (maxDischargeDepth := 40) [*]

@[simp] theorem echoLimitExpire_within (n : Nat) (a : Authority) (h : Within s t) : Within s (echoLimitExpire n a t) := by
  unfold echoLimitExpire
  try dsimp only
  (repeat' split) <;> simp (maxDischargeDepth := 40) [*]

@[simp] theorem promiseDeparture_within (n : Nat) (a : Authority) (h : Within s t) : Within s (promiseDeparture n a t) := by
  unfold promiseDeparture
  (repeat' split) <;> simp (maxDischargeDepth := 40) [*]

@[simp] theorem matchedEcho_within (n : Nat) (a : Authority) (late : Bool) (h : Within s t) :
    Within s (matchedEcho n a late t) := by
  unfold matchedEcho
  (repeat' split) <;> simp (maxDischargeDepth := 40) [*]

@[simp] theorem takeRevokeEcho_within (unit : Nat) (payload : List Octet) (h : Within s t) :
    Within s (takeRevokeEcho unit payload t) := by
  unfold takeRevokeEcho
  (repeat' split) <;> simp [*]

@[simp] theorem departureWaitExpire_within (n : Nat) (c : Call) (h : Within s t) : Within s (departureWaitExpire n c t) := by
  unfold departureWaitExpire
  try dsimp only
  (repeat' split) <;> simp (maxDischargeDepth := 40) [*]

end Sys2Proof.Laws
end

