-- ==== Sys2Proof/Laws/WithinWayside.lean ====
section
/-!
SUPPORT. The operations of the wayside link controller that leave the line, the inbound buffer and the patterns alone stay
within.
-/

set_option linter.unusedSimpArgs false

namespace Sys2Proof.Laws

open Sys2Proof.Machine Sys2Proof.Safety

variable {s t : State}

@[simp] theorem unitNotice_within (a : Nat) (h : Within s t) : Within s (State.unitNotice a t) := by
  unfold State.unitNotice
  (repeat' split) <;> simp [*]

@[simp] theorem revokeAllFailed_within (h : Within s t) : Within s (revokeAllFailed t) := by
  unfold revokeAllFailed
  (repeat' split) <;> simp [*]

@[simp] theorem reportFrame_within (f : OutFrame) (o : FrameEnd) (h : Within s t) : Within s (reportFrame f o t) := by
  unfold reportFrame
  (repeat' split) <;> simp [*]

@[simp] theorem wantPoll_within (a : Nat) (h : Within s t) : Within s (wantPoll a t) := by
  unfold wantPoll
  (repeat' split) <;> simp [*]

@[simp] theorem dropFrames_within (a : Nat) (h : Within s t) : Within s (dropFrames a t) := by
  unfold dropFrames
  dsimp only
  refine within_forEach _ _ (within_wlc _ h ⟨rfl, rfl, rfl, rfl, rfl, fun k => ?_, id⟩) fun f u => by simp
  simpa using filter_length_mono _ _ _ k

@[simp] theorem reportStale_within (u : UnitRec) (h : Within s t) : Within s (reportStale u t) := by
  unfold reportStale
  (repeat' split) <;> simp [*]

@[simp] theorem goStale_within (a : Nat) (origin : RaiseOrigin) (h : Within s t) : Within s (goStale a origin t) := by
  unfold goStale
  try dsimp only
  (repeat' split) <;> simp (maxDischargeDepth := 40) [*]

@[simp] theorem countFailure_within (a : Nat) (h : Within s t) : Within s (countFailure a t) := by
  unfold countFailure
  (repeat' split) <;> simp [*]

@[simp] theorem silenceExpire_within (a : Nat) (h : Within s t) : Within s (silenceExpire a t) := by
  unfold silenceExpire
  (repeat' split) <;> simp [*]

@[simp] theorem pollPointPass_within (a : Nat) (h : Within s t) : Within s (pollPointPass a t) := by
  unfold pollPointPass
  (repeat' split) <;> simp [*]

@[simp] theorem takeOff_within (h : Within s t) : Within s (takeOff t) :=
  within_wlc _ h ⟨rfl, rfl, rfl, rfl, rfl, filter_length_mono _ _ _, id⟩

@[simp] theorem tryDelivered_within (f : OutFrame) (h : Within s t) : Within s (tryDelivered f t) := by
  unfold tryDelivered
  try dsimp only
  (repeat' split) <;> simp (maxDischargeDepth := 40) [*]

@[simp] theorem tryMarked_within (f : OutFrame) (h : Within s t) : Within s (tryMarked f t) := by
  unfold tryMarked
  try dsimp only
  (repeat' split) <;> simp (maxDischargeDepth := 40) [*]

@[simp] theorem hear_within (a : Nat) (h : Within s t) : Within s (hear a t) := by
  unfold hear
  try dsimp only
  (repeat' split) <;> simp (maxDischargeDepth := 40) [*]

@[simp] theorem patternNotice_within (index : Value) (event : String) (h : Within s t) :
    Within s (State.patternNotice index event t) := by
  unfold State.patternNotice
  (repeat' split) <;> simp [*]

@[simp] theorem stationReport_within (unit : Nat) (payload : List Octet) (h : Within s t) :
    Within s (stationReport unit payload t) := by
  unfold stationReport
  (repeat' split) <;> simp [*]

@[simp] theorem playReport_within (unit : Nat) (payload : List Octet) (h : Within s t) : Within s (playReport unit payload t) := by
  unfold playReport
  (repeat' split) <;> simp [*]

end Sys2Proof.Laws
end

