-- ==== Sys2Proof/Laws/Calm.lean ====
section
/-!
SUPPORT. A calm change: the line mode, the incident manager and the sections' states stay. Its laws for a change of one component.
-/

namespace Sys2Proof.Laws

open Sys2Proof.Machine Sys2Proof.Safety

/-- The states of the sections, with their indices. -/
def sectionStates (l : List SecRec) : List (Nat × SectionState) := l.map fun r => (r.index, r.state)

/-- Nothing of the line mode, the incident manager or the sections' states changes. -/
structure Calm (s t : State) : Prop where
  mode : t.lmc.mode = s.lmc.mode
  inm : t.inm = s.inm
  sections : sectionStates t.tpc.sections = sectionStates s.tpc.sections

variable {s t : State}

@[simp] theorem calm_refl (s : State) : Calm s s := ⟨rfl, rfl, rfl⟩

theorem calm_trans {s t u : State} (h : Calm s t) (k : Calm t u) : Calm s u :=
  ⟨k.mode.trans h.mode, k.inm.trans h.inm, k.sections.trans h.sections⟩

@[simp] theorem calm_clp (x : Clp) (h : Calm s t) :
    Calm s ⟨t.lmc, t.lst, x, t.wlc, t.trk, t.srg, t.tpc, t.inm, t.ans, t.pending⟩ := ⟨h.1, h.2, h.3⟩
@[simp] theorem calm_lst (x : Lst) (h : Calm s t) :
    Calm s ⟨t.lmc, x, t.clp, t.wlc, t.trk, t.srg, t.tpc, t.inm, t.ans, t.pending⟩ := ⟨h.1, h.2, h.3⟩
@[simp] theorem calm_wlc (x : Wlc) (h : Calm s t) :
    Calm s ⟨t.lmc, t.lst, t.clp, x, t.trk, t.srg, t.tpc, t.inm, t.ans, t.pending⟩ := ⟨h.1, h.2, h.3⟩
@[simp] theorem calm_trk (x : Trk) (h : Calm s t) :
    Calm s ⟨t.lmc, t.lst, t.clp, t.wlc, x, t.srg, t.tpc, t.inm, t.ans, t.pending⟩ := ⟨h.1, h.2, h.3⟩
@[simp] theorem calm_srg (x : Srg) (h : Calm s t) :
    Calm s ⟨t.lmc, t.lst, t.clp, t.wlc, t.trk, x, t.tpc, t.inm, t.ans, t.pending⟩ := ⟨h.1, h.2, h.3⟩
@[simp] theorem calm_ans (x : Ans) (h : Calm s t) :
    Calm s ⟨t.lmc, t.lst, t.clp, t.wlc, t.trk, t.srg, t.tpc, t.inm, x, t.pending⟩ := ⟨h.1, h.2, h.3⟩
@[simp] theorem calm_tpc (x : Tpc) (h : Calm s t) (k : x.sections = t.tpc.sections) :
    Calm s ⟨t.lmc, t.lst, t.clp, t.wlc, t.trk, t.srg, x, t.inm, t.ans, t.pending⟩ := ⟨h.1, h.2, k ▸ h.3⟩
@[simp] theorem calm_lmc (x : Lmc) (h : Calm s t) (k : x.mode = t.lmc.mode) :
    Calm s ⟨x, t.lst, t.clp, t.wlc, t.trk, t.srg, t.tpc, t.inm, t.ans, t.pending⟩ := ⟨k.trans h.1, h.2, h.3⟩

/-- A change of a section's record that keeps its index and its state. -/
@[simp] theorem modSec_calm (x : Nat) (f : SecRec → SecRec) (h : Calm s t) (k : ∀ r, (f r).index = r.index ∧ (f r).state = r.state) :
    Calm s (State.modSec x f t) := by
  refine ⟨h.1, h.2, ?_⟩
  rw [← h.3]
  simp only [sectionStates, State.modSec, Machine.modify, List.map_map]
  refine List.map_congr_left fun r _ => ?_
  simp only [Function.comp_apply]
  split <;> simp [k]

/-- One thing after another for each member of a list. -/
@[simp] theorem calm_forEach {α : Type} (l : List α) (f : α → State → State) (h : Calm s t) (k : ∀ x u, Calm u (f x u)) :
    Calm s (forEach l f t) := by
  unfold forEach
  induction l generalizing t with
  | nil => exact h
  | cons x l ih => exact ih (calm_trans h (k x t))

/-- A move repeated while it is called for. -/
theorem repeatWhile_calm {move? : State → Option State} (fuel : Nat) (h : Calm s t) (k : ∀ {u v}, move? u = some v → Calm u v) :
    Calm s (repeatWhile move? fuel t) := by
  induction fuel generalizing t with
  | zero => exact h
  | succ n ih =>
    unfold repeatWhile
    split
    · exact ih (calm_trans h (k ‹_›))
    · exact h

end Sys2Proof.Laws
end

