-- ==== Sys2Proof/Laws/CalmOps.lean ====
section
/-!
SUPPORT. The operations of the tables, the notices and the frames are calm.
-/

set_option linter.unusedSimpArgs false

namespace Sys2Proof.Laws

open Sys2Proof.Machine Sys2Proof.Safety

variable {s t : State}

@[simp] theorem modTrain_calm (n : Nat) (f : Train → Train) (h : Calm s t) : Calm s (State.modTrain n f t) := by
  unfold State.modTrain
  (repeat' split) <;> simp [*]

@[simp] theorem modBrk_calm (b : Nat) (f : BrkRec → BrkRec) (h : Calm s t) : Calm s (State.modBrk b f t) := by
  unfold State.modBrk
  (repeat' split) <;> simp [*]

@[simp] theorem modUnit_calm (a : Nat) (f : UnitRec → UnitRec) (h : Calm s t) : Calm s (State.modUnit a f t) := by
  unfold State.modUnit
  (repeat' split) <;> simp [*]

@[simp] theorem modPlat_calm (p : Nat) (f : PlatRec → PlatRec) (h : Calm s t) : Calm s (State.modPlat p f t) := by
  unfold State.modPlat
  (repeat' split) <;> simp [*]

@[simp] theorem modTrip_calm (n : Nat) (f : TripState → TripState) (h : Calm s t) : Calm s (State.modTrip n f t) := by
  unfold State.modTrip
  (repeat' split) <;> simp [*]

@[simp] theorem modPermit_calm (id : Nat) (f : Permit → Permit) (h : Calm s t) : Calm s (State.modPermit id f t) := by
  unfold State.modPermit
  (repeat' split) <;> simp [*]

@[simp] theorem modEntry_calm (id : Nat) (f : Entry → Entry) (h : Calm s t) : Calm s (State.modEntry id f t) := by
  unfold State.modEntry
  (repeat' split) <;> simp [*]

@[simp] theorem modZone_calm (st : Nat) (f : Zone → Zone) (h : Calm s t) : Calm s (State.modZone st f t) := by
  unfold State.modZone
  (repeat' split) <;> simp [*]

@[simp] theorem modDisplay_calm (p : Nat) (f : Display → Display) (h : Calm s t) : Calm s (State.modDisplay p f t) := by
  unfold State.modDisplay
  (repeat' split) <;> simp [*]

@[simp] theorem modIsolation_calm (x : Nat) (f : Isolation → Isolation) (h : Calm s t) : Calm s (State.modIsolation x f t) := by
  unfold State.modIsolation
  (repeat' split) <;> simp [*]

@[simp] theorem modCall_calm (n : Nat) (f : Call → Call) (h : Calm s t) : Calm s (State.modCall n f t) := by
  unfold State.modCall
  (repeat' split) <;> simp [*]

@[simp] theorem modAuthority_calm (n : Nat) (f : Authority → Authority) (h : Calm s t) : Calm s (State.modAuthority n f t) := by
  unfold State.modAuthority
  (repeat' split) <;> simp [*]

@[simp] theorem modDelivery_calm (id st : Nat) (f : Delivery → Delivery) (h : Calm s t) : Calm s (State.modDelivery id st f t) := by
  unfold State.modDelivery
  (repeat' split) <;> simp [*]

@[simp] theorem setOcc_calm (i : Nat) (o : Occupancy) (h : Calm s t) : Calm s (State.setOcc i o t) := by
  unfold State.setOcc
  (repeat' split) <;> simp [*]

@[simp] theorem send_calm (l : OutLine) (h : Calm s t) : Calm s (State.send l t) := by
  unfold State.send
  (repeat' split) <;> simp [*]

@[simp] theorem sendAll_calm (ls : List OutLine) (h : Calm s t) : Calm s (State.sendAll ls t) := by
  unfold State.sendAll
  (repeat' split) <;> simp [*]

@[simp] theorem notice_calm (k : NoticeKind) (summary : List Field) (h : Calm s t) : Calm s (State.notice k summary t) := by
  unfold State.notice
  (repeat' split) <;> simp [*]

@[simp] theorem clearFlag_calm (k : NoticeKind) (h : Calm s t) : Calm s (State.clearFlag k t) := by
  unfold State.clearFlag
  (repeat' split) <;> simp [*]

@[simp] theorem modeNotice_calm (h : Calm s t) : Calm s (State.modeNotice t) := by
  unfold State.modeNotice
  (repeat' split) <;> simp [*]

@[simp] theorem reportHeld_calm (h : Calm s t) : Calm s (State.reportHeld t) := by
  unfold State.reportHeld
  try dsimp only
  (repeat' split) <;> simp (maxDischargeDepth := 40) [*]

@[simp] theorem updateReadiness_calm (h : Calm s t) : Calm s (State.updateReadiness t) := by
  unfold State.updateReadiness
  try dsimp only
  (repeat' split) <;> simp (maxDischargeDepth := 40) [*]

/-- A frame posted. -/
theorem postFrame_calm {d : Nat} {b : Body} {u : State} (e : postFrame d b t = some u) (h : Calm s t) : Calm s u := by
  unfold postFrame at e
  split at e
  · rename_i k
    cases e
    exact calm_wlc _ h
  · cases e

@[simp] theorem postOrDrop_calm (dest : Nat) (b : Body) (h : Calm s t) : Calm s (postOrDrop dest b t) := by
  unfold postOrDrop
  rcases e : postFrame dest b t with _ | u
  · exact h
  · exact postFrame_calm e h

@[simp] theorem withdrawFrame_calm (p : OutFrame → Bool) (h : Calm s t) : Calm s (withdrawFrame p t).2 := by
  unfold withdrawFrame
  split
  · exact h
  · split
    · simp [h]
    · exact calm_wlc _ h

theorem withdrawFrame_calm' {p : OutFrame → Bool} {w : Withdrawal} {u : State} (e : withdrawFrame p t = (w, u))
    (h : Calm s t) : Calm s u := by
  have k := withdrawFrame_calm p h
  rwa [e] at k

@[simp] theorem postPolls_calm (fuel : Nat) (h : Calm s t) : Calm s (postPolls fuel t) := by
  induction fuel generalizing t with
  | zero => exact h
  | succ n ih =>
    unfold postPolls
    split
    · split
      · split
        · have k := postFrame_calm (s := s) ‹postFrame _ _ _ = some _› h
          exact ih (by simp [k])
        · exact h
      · exact h
    · exact h

@[simp] theorem polls_calm (h : Calm s t) : Calm s (State.polls t) := by
  unfold State.polls
  (repeat' split) <;> simp [*]

end Sys2Proof.Laws
end

