-- ==== Sys2Proof/Laws/CalmAnnounce.lean ====
section
/-!
SUPPORT. The operations of the announcement scheduler are calm.
-/

set_option linter.unusedSimpArgs false

namespace Sys2Proof.Laws

open Sys2Proof.Machine Sys2Proof.Safety

variable {s t : State}

@[simp] theorem computeDisplay_calm (force : Bool) (p : Nat) (h : Calm s t) : Calm s (computeDisplay force p t) := by
  unfold computeDisplay
  try dsimp only
  (repeat' split) <;>
    first
    | simp (maxDischargeDepth := 40) [*]
    | (have k := postFrame_calm (s := s) ‹postFrame _ _ _ = some _› (by simp (maxDischargeDepth := 40) [h])
       simp (maxDischargeDepth := 40) [h, k])

@[simp] theorem displaysAll_calm (h : Calm s t) : Calm s (State.displaysAll t) := by
  unfold State.displaysAll
  (repeat' split) <;> simp [*]

@[simp] theorem displaysAt_calm (stations : List Nat) (h : Calm s t) : Calm s (State.displaysAt stations t) := by
  unfold State.displaysAt
  (repeat' split) <;> simp [*]

@[simp] theorem entryNotice_calm (id : Nat) (event : String) (h : Calm s t) : Calm s (State.entryNotice id event t) := by
  unfold State.entryNotice
  (repeat' split) <;> simp [*]

@[simp] theorem removeEntry_calm (id : Nat) (cause : RemovalCause) (h : Calm s t) : Calm s (removeEntry id cause t) := by
  unfold removeEntry
  split
  · exact h
  · have k := calm_ans { t.ans with entries := t.ans.entries.filter (·.id != id) } h
    simp (maxDischargeDepth := 40) [k]

@[simp] theorem checkEntry_calm (id : Nat) (h : Calm s t) : Calm s (checkEntry id t) := by
  unfold checkEntry
  (repeat' split) <;> simp [*]

@[simp] theorem skipDelivery_calm (id st : Nat) (h : Calm s t) : Calm s (skipDelivery id st t) := by
  unfold skipDelivery
  try dsimp only
  (repeat' split) <;> simp (maxDischargeDepth := 40) [*]

@[simp] theorem requeueDelivery_calm (id st delay : Nat) (h : Calm s t) : Calm s (requeueDelivery id st delay t) := by
  unfold requeueDelivery
  (repeat' split) <;> simp [*]

@[simp] theorem playDone_calm (id st : Nat) (h : Calm s t) : Calm s (playDone id st t) := by
  unfold playDone
  (repeat' split) <;> simp [*]

@[simp] theorem setZone_calm (st : Nat) (new : ZoneState) (h : Calm s t) : Calm s (setZone st new t) := by
  unfold setZone
  (repeat' split) <;> simp [*]

@[simp] theorem playDelivery_calm (e : Entry) (st : Nat) (override : Bool) (phrases : List Nat) (h : Calm s t) :
    Calm s (playDelivery e st override phrases t) := by
  unfold playDelivery
  try dsimp only
  (repeat' split) <;>
    first
    | simp (maxDischargeDepth := 40) [*]
    | (have k := postFrame_calm (s := s) ‹postFrame _ _ _ = some _› (by simp (maxDischargeDepth := 40) [h])
       simp (maxDischargeDepth := 40) [h, k])

@[simp] theorem chooseAndPlay_calm (st : Nat) (isLocal : Bool) (fuel : Nat) (h : Calm s t) :
    Calm s (chooseAndPlay st isLocal fuel t) := by
  induction fuel generalizing t with
  | zero => exact h
  | succ n ih =>
    unfold chooseAndPlay
    split
    · exact h
    · split
      · exact ih (by simp [h])
      · simp [h]

@[simp] theorem skipUnreachable_calm (st : Nat) (h : Calm s t) : Calm s (skipUnreachable st t) := by
  unfold skipUnreachable
  (repeat' split) <;> simp [*]

@[simp] theorem selectZone_calm (st : Nat) (h : Calm s t) : Calm s (selectZone st t) := by
  unfold selectZone
  (repeat' split) <;> simp [*]

@[simp] theorem freeZone_calm (st : Nat) (toLocal : Bool) (h : Calm s t) : Calm s (freeZone st toLocal t) := by
  unfold freeZone
  (repeat' split) <;> simp [*]

@[simp] theorem settleStopped_calm (id st : Nat) (how : Confirmation) (h : Calm s t) : Calm s (settleStopped id st how t) := by
  unfold settleStopped
  (repeat' split) <;> simp [*]

@[simp] theorem confirmStop_calm (st : Nat) (how : Confirmation) (h : Calm s t) : Calm s (confirmStop st how t) := by
  unfold confirmStop
  try dsimp only
  (repeat' split) <;> simp (maxDischargeDepth := 40) [*]

@[simp] theorem stopZone_calm (st : Nat) (next : Option Nat) (h : Calm s t) : Calm s (stopZone st next t) := by
  unfold stopZone
  try dsimp only
  (repeat' split) <;>
    first
    | simp (maxDischargeDepth := 40) [*]
    | (have k := withdrawFrame_calm' (s := s) ‹withdrawFrame _ _ = _› (by simp (maxDischargeDepth := 40) [h])
       simp (maxDischargeDepth := 40) [h, k])

@[simp] theorem withdrawEntry_calm (id : Nat) (cause : RemovalCause) (h : Calm s t) : Calm s (withdrawEntry id cause t) := by
  unfold withdrawEntry
  try dsimp only
  (repeat' split) <;> simp (maxDischargeDepth := 40) [*]

@[simp] theorem preempt_calm (id st : Nat) (h : Calm s t) : Calm s (preempt id st t) := by
  unfold preempt
  (repeat' split) <;> simp [*]

@[simp] theorem offerDelivery_calm (id st : Nat) (h : Calm s t) : Calm s (offerDelivery id st t) := by
  unfold offerDelivery
  (repeat' split) <;> simp [*]

@[simp] theorem makeEntry_calm (scope : List Nat) (n : Post) (h : Calm s t) : Calm s (makeEntry scope n t).2 := by
  unfold makeEntry
  dsimp only
  apply displaysAt_calm
  apply calm_forEach
  · simp [h]
  · simp (maxDischargeDepth := 40)

theorem postEntry_calm {n : Post} {u : State} {a : PostAnswer} (e : postEntry n t = (a, u)) (h : Calm s t) : Calm s u := by
  unfold postEntry at e
  dsimp only at e
  (repeat' split at e) <;> cases e <;> first | exact h | simp (maxDischargeDepth := 40) [h]

@[simp] theorem internalPost_calm (n : Post) (h : Calm s t) : Calm s (internalPost n t).2 := by
  unfold internalPost
  split <;> rename_i e
  · exact postEntry_calm e h
  · exact postEntry_calm e h
  · have k := postEntry_calm e h
    simp [k]

theorem internalPost_calm' {n : Post} {o : Option Nat} {u : State} (e : internalPost n t = (o, u)) (h : Calm s t) :
    Calm s u := by
  have k := internalPost_calm n h
  rwa [e] at k

theorem updateMinutes_calm {id m : Nat} {u : State} (e : updateMinutes id m t = some u) (h : Calm s t) : Calm s u := by
  unfold updateMinutes at e
  (repeat' split at e) <;> cases e
  simp (maxDischargeDepth := 40) [h]

@[simp] theorem leavePlaying_calm (st : Nat) (override : Bool) (h : Calm s t) : Calm s (leavePlaying st override t) := by
  unfold leavePlaying
  (repeat' split) <;> simp [*]

@[simp] theorem playOutcome_calm (f : OutFrame) (id : Nat) (o : FrameEnd) (h : Calm s t) : Calm s (playOutcome f id o t) := by
  unfold playOutcome
  (repeat' split) <;> simp [*]

@[simp] theorem displayFailed_calm (p : Nat) (h : Calm s t) : Calm s (displayFailed p t) := by
  unfold displayFailed
  (repeat' split) <;> simp [*]

@[simp] theorem takePlayEnd_calm (st id : Nat) (o : PlayOutcome) (h : Calm s t) : Calm s (takePlayEnd st id o t) := by
  unfold takePlayEnd
  (repeat' split) <;> simp [*]

@[simp] theorem takeStationStatus_calm (st : Nat) (taken : Bool) (clip : Nat) (h : Calm s t) :
    Calm s (takeStationStatus st taken clip t) := by
  unfold takeStationStatus
  try dsimp only
  (repeat' split) <;> simp (maxDischargeDepth := 40) [*]

@[simp] theorem staleZone_calm (st : Nat) (h : Calm s t) : Calm s (staleZone st t) := by
  unfold staleZone
  try dsimp only
  (repeat' split) <;> simp (maxDischargeDepth := 40) [*]

@[simp] theorem announceMode_calm (h : Calm s t) : Calm s (announceMode t) := by
  unfold announceMode
  try dsimp only
  (repeat' split) <;> simp (maxDischargeDepth := 40) [*]

@[simp] theorem arrivalEntries_calm (train head : Nat) (h : Calm s t) : Calm s (arrivalEntries train head t) := by
  unfold arrivalEntries
  refine calm_forEach _ _ h fun p u => ?_
  dsimp only
  (repeat' split) <;> simp

@[simp] theorem dropArrivals_calm (train : Nat) (h : Calm s t) : Calm s (dropArrivals train t) := by
  unfold dropArrivals
  (repeat' split) <;> simp [*]

end Sys2Proof.Laws
end

