-- ==== Sys2Proof/Laws/CalmService.lean ====
section
/-!
SUPPORT. The operations of the service regulator are calm.
-/

set_option linter.unusedSimpArgs false

namespace Sys2Proof.Laws

open Sys2Proof.Machine Sys2Proof.Safety

variable {s t : State}

@[simp] theorem trainNotice_calm (n : Nat) (h : Calm s t) : Calm s (State.trainNotice n t) := by
  unfold State.trainNotice
  (repeat' split) <;> simp [*]

@[simp] theorem tripNotice_calm (k : Nat) (h : Calm s t) : Calm s (State.tripNotice k t) := by
  unfold State.tripNotice
  (repeat' split) <;> simp [*]

@[simp] theorem setTrainState_calm (n : Nat) (st : TrainState) (h : Calm s t) : Calm s (setTrainState n st t) := by
  unfold setTrainState
  try dsimp only
  (repeat' split) <;> simp (maxDischargeDepth := 40) [*]

theorem requestGrant_calm {n x draw window : Nat} {b : Bool} {u : State} (e : requestGrant n x draw window t = (b, u))
    (h : Calm s t) : Calm s u := by
  unfold requestGrant at e
  dsimp only at e
  split at e <;> cases e <;> exact calm_tpc _ h rfl

theorem issueAuthority_calm {n x : Nat} {c : Call} {b : Evaluation} {u : State} (e : issueAuthority n x c t = (b, u))
    (h : Calm s t) : Calm s u := by
  unfold issueAuthority at e
  dsimp only at e
  split at e <;> cases e
  · have k := postFrame_calm (s := s) ‹postFrame _ _ _ = some _› (by simp [h])
    simp [k]
  · refine calm_tpc _ ?_ rfl
    simp [h]

theorem evaluateCall_calm {n : Nat} {b : Evaluation} {u : State} (e : evaluateCall n t = (b, u)) (h : Calm s t) :
    Calm s u := by
  unfold evaluateCall at e
  split at e
  · cases e; exact h
  · split at e
    · cases e; exact h
    · split at e
      · cases e; simp [h]
      · split at e <;> rename_i k
        · exact issueAuthority_calm e (requestGrant_calm k h)
        · have m := requestGrant_calm k h
          cases e
          simp [m]

@[simp] theorem evaluateList_calm (fuel : Nat) (ns refused : List Nat) (h : Calm s t) :
    Calm s (evaluateList fuel ns refused t) := by
  induction fuel generalizing ns refused t with
  | zero => exact h
  | succ n ih =>
    cases ns with
    | nil => exact h
    | cons m ns =>
      unfold evaluateList
      split
      · exact ih _ _ h
      · split
        · exact ih _ _ h
        · split <;> exact ih _ _ (evaluateCall_calm ‹_› h)

@[simp] theorem evaluateMany_calm (ns : List Nat) (h : Calm s t) : Calm s (evaluateMany ns t) := by
  unfold evaluateMany
  (repeat' split) <;> simp [*]

@[simp] theorem reoffer_calm (x : Nat) (h : Calm s t) : Calm s (reoffer x t) := by
  unfold reoffer
  (repeat' split) <;> simp [*]

@[simp] theorem evaluate_calm (n : Nat) (h : Calm s t) : Calm s (evaluate n t) := by
  unfold evaluate
  split
  · have k := evaluateCall_calm ‹_› h
    simp [k]
  · exact evaluateCall_calm ‹_› h

@[simp] theorem dropGrant_calm (n : Nat) (h : Calm s t) : Calm s (dropGrant n t) := by
  unfold dropGrant
  try dsimp only
  (repeat' split) <;> simp (maxDischargeDepth := 40) [*]

@[simp] theorem authorityEnded_calm (n : Nat) (h : Calm s t) : Calm s (authorityEnded n t) := by
  unfold authorityEnded
  split <;> simp [h]

@[simp] theorem endWithdrawn_calm (n : Nat) (h : Calm s t) : Calm s (endWithdrawn n t) := by
  unfold endWithdrawn
  try dsimp only
  (repeat' split) <;> simp (maxDischargeDepth := 40) [*]

@[simp] theorem sendRevoke_calm (n : Nat) (a : Authority) (h : Calm s t) : Calm s (sendRevoke n a t) := by
  unfold sendRevoke
  (repeat' split) <;> simp [*]

@[simp] theorem revoke_calm (n : Nat) (h : Calm s t) : Calm s (revoke n t) := by
  unfold revoke
  try dsimp only
  (repeat' split) <;>
    first
    | simp (maxDischargeDepth := 40) [*]
    | (have k := withdrawFrame_calm' (s := s) ‹withdrawFrame _ _ = _› (by simp (maxDischargeDepth := 40) [h])
       simp (maxDischargeDepth := 40) [h, k])

@[simp] theorem releaseGrant_calm (n : Nat) (h : Calm s t) : Calm s (releaseGrant n t) := by
  unfold releaseGrant
  try dsimp only
  (repeat' split) <;> simp (maxDischargeDepth := 40) [*]

@[simp] theorem authoriseOutcome_calm (id : Nat) (o : FrameEnd) (h : Calm s t) : Calm s (authoriseOutcome id o t) := by
  unfold authoriseOutcome
  try dsimp only
  (repeat' split) <;> simp (maxDischargeDepth := 40) [*]

@[simp] theorem addTrainHold_calm (n : Nat) (r : HoldReason) (h : Calm s t) : Calm s (addTrainHold n r t) := by
  unfold addTrainHold
  (repeat' split) <;> simp [*]

@[simp] theorem addPlatformHold_calm (p : Nat) (r : HoldReason) (h : Calm s t) : Calm s (addPlatformHold p r t) := by
  unfold addPlatformHold
  (repeat' split) <;> simp [*]

@[simp] theorem removeTrainHold_calm (n : Nat) (r : HoldReason) (h : Calm s t) : Calm s (removeTrainHold n r t) := by
  unfold removeTrainHold
  try dsimp only
  (repeat' split) <;> simp (maxDischargeDepth := 40) [*]

@[simp] theorem removePlatformHold_calm (p : Nat) (r : HoldReason) (h : Calm s t) : Calm s (removePlatformHold p r t) := by
  unfold removePlatformHold
  (repeat' split) <;> simp [*]

@[simp] theorem dropDelay_calm (n : Nat) (h : Calm s t) : Calm s (dropDelay n t) := by
  unfold dropDelay
  (repeat' split) <;> simp [*]

@[simp] theorem delayRule_calm (n : Nat) (h : Calm s t) : Calm s (delayRule n t) := by
  unfold delayRule
  try dsimp only
  (repeat' split) <;>
    first
    | simp (maxDischargeDepth := 40) [*]
    | (have k := internalPost_calm' (s := s) ‹internalPost _ _ = _› h
       simp (maxDischargeDepth := 40) [k])
    | exact updateMinutes_calm ‹_› h

@[simp] theorem startCall_calm (n p : Nat) (point : Option Nat) (h : Calm s t) : Calm s (startCall n p point t) := by
  unfold startCall
  (repeat' split) <;> simp [*]

@[simp] theorem abortCall_calm (n : Nat) (h : Calm s t) : Calm s (abortCall n t) := by
  unfold abortCall
  (repeat' split) <;> simp [*]

@[simp] theorem loseTrip_calm (n : Nat) (h : Calm s t) : Calm s (loseTrip n t) := by
  unfold loseTrip
  try dsimp only
  (repeat' split) <;> simp (maxDischargeDepth := 40) [*]

@[simp] theorem setTrip_calm (k : Nat) (st : TripStatus) (cause : Option CancelCause) (h : Calm s t) :
    Calm s (setTrip k st cause t) := by
  unfold setTrip
  (repeat' split) <;> simp [*]

@[simp] theorem giveTrip_calm (n k : Nat) (h : Calm s t) : Calm s (giveTrip n k t) := by
  unfold giveTrip
  try dsimp only
  (repeat' split) <;> simp (maxDischargeDepth := 40) [*]

@[simp] theorem assignTrip_calm (n : Nat) (h : Calm s t) : Calm s (assignTrip n t) := by
  unfold assignTrip
  try dsimp only
  (repeat' split) <;> simp (maxDischargeDepth := 40) [*]

@[simp] theorem regulateMode_calm (old new : Mode) (h : Calm s t) : Calm s (regulateMode old new t) := by
  unfold regulateMode
  (repeat' split) <;> simp [*]

end Sys2Proof.Laws
end

