-- ==== Sys2Proof/Laws/CalmPower.lean ====
section
/-!
SUPPORT. The power controller's commands and sequences are calm; a section's change of state, what it makes of that state, and what it leaves
alone.
-/

set_option linter.unusedSimpArgs false

namespace Sys2Proof.Laws

open Sys2Proof.Machine Sys2Proof.Safety

variable {s t : State}

@[simp] theorem sectionNotice_calm (x : Nat) (h : Calm s t) : Calm s (State.sectionNotice x t) := by
  unfold State.sectionNotice
  (repeat' split) <;> simp [*]

@[simp] theorem breakerNotice_calm (b : Nat) (h : Calm s t) : Calm s (State.breakerNotice b t) := by
  unfold State.breakerNotice
  (repeat' split) <;> simp [*]

@[simp] theorem recomputeBudget_calm (x : Nat) (h : Calm s t) : Calm s (recomputeBudget x t) := by
  unfold recomputeBudget
  try dsimp only
  (repeat' split) <;> simp (maxDischargeDepth := 40) [*]

@[simp] theorem recomputeBudgets_calm (xs : List Nat) (h : Calm s t) : Calm s (recomputeBudgets xs t) := by
  unfold recomputeBudgets
  (repeat' split) <;> simp [*]

@[simp] theorem modCmd_calm (c : Cmd) (f : Cmd → Cmd) (h : Calm s t) : Calm s (State.modCmd c f t) := by
  unfold State.modCmd
  (repeat' split) <;> simp [*]

@[simp] theorem reportEnd_calm (b : Nat) (a : Action) (origin : CmdOrigin) (o : CmdOutcome) (h : Calm s t) :
    Calm s (reportEnd b a origin o t) := by
  unfold reportEnd
  try dsimp only
  (repeat' split) <;> simp (maxDischargeDepth := 40) [*]

@[simp] theorem endCmd_calm (c : Cmd) (o : CmdOutcome) (h : Calm s t) : Calm s (endCmd c o t) := by
  unfold endCmd
  exact reportEnd_calm _ _ _ _ (calm_tpc _ h rfl)

@[simp] theorem cancelSelect_calm (unit number code : Nat) (h : Calm s t) : Calm s (cancelSelect unit number code t) := by
  unfold cancelSelect
  (repeat' split) <;> simp [*]

@[simp] theorem cancelCmd_calm (c : Cmd) (h : Calm s t) : Calm s (cancelCmd c t) := by
  unfold cancelCmd
  try dsimp only
  (repeat' split) <;> simp (maxDischargeDepth := 40) [*]

@[simp] theorem cancelClose_calm (b : Nat) (h : Calm s t) : Calm s (cancelClose b t) := by
  unfold cancelClose
  (repeat' split) <;> simp [*]

@[simp] theorem cancelCloses_calm (x : Nat) (p : Cmd → Bool) (h : Calm s t) : Calm s (cancelCloses x p t) := by
  unfold cancelCloses
  try dsimp only
  (repeat' split) <;>
    first
    | simp (maxDischargeDepth := 40) [*]; done
    | (refine calm_forEach _ _ (by simp (maxDischargeDepth := 40) [*]) fun _ _ => ?_
       try dsimp only
       (repeat' split) <;> simp (maxDischargeDepth := 40) [*])

@[simp] theorem pushCmd_calm (b : Nat) (a : Action) (origin : CmdOrigin) (h : Calm s t) : Calm s (pushCmd b a origin t) :=
  calm_tpc _ h rfl

@[simp] theorem placeOwed_calm (h : Calm s t) : Calm s (placeOwed t) := by
  unfold placeOwed
  try dsimp only
  (repeat' split) <;>
    first
    | simp (maxDischargeDepth := 40) [*]; done
    | (refine calm_forEach _ _ (by simp (maxDischargeDepth := 40) [*]) fun _ _ => ?_
       try dsimp only
       (repeat' split) <;> simp (maxDischargeDepth := 40) [*])

@[simp] theorem startCmd_calm (c : Cmd) (h : Calm s t) : Calm s (startCmd c t) := by
  have m : Calm s { (t.modCmd c fun _ => { c with phase := .selecting, code := t.tpc.nextCode }) with
      tpc.nextCode := (t.tpc.nextCode + 1) % 256 } := calm_tpc _ (modCmd_calm c _ h) rfl
  unfold startCmd
  dsimp only
  split
  · exact postFrame_calm ‹_› m
  · exact endCmd_calm _ _ m

theorem queueMove_calm {u : State} (e : queueMove? t = some u) (h : Calm s t) : Calm s u := by
  unfold queueMove? at e
  split at e
  · cases e
    exact placeOwed_calm h
  · obtain ⟨c, _, k⟩ := Option.map_eq_some_iff.mp e
    exact k ▸ startCmd_calm c h

@[simp] theorem startCommands_calm (h : Calm s t) : Calm s (startCommands t) :=
  repeatWhile_calm 256 h fun e => queueMove_calm e (calm_refl _)

@[simp] theorem placeOpen_calm (b : Nat) (origin : CmdOrigin) (h : Calm s t) : Calm s (placeOpen b origin t) := by
  unfold placeOpen
  try dsimp only
  (repeat' split) <;> simp (maxDischargeDepth := 40) [*]

@[simp] theorem placeOpens_calm (x : Nat) (origin : CmdOrigin) (h : Calm s t) : Calm s (placeOpens x origin t) := by
  unfold placeOpens
  (repeat' split) <;> simp [*]

@[simp] theorem clearLockout_calm (x : Nat) (h : Calm s t) : Calm s (clearLockout x t) := by
  unfold clearLockout
  (repeat' split) <;> simp [*]

@[simp] theorem removeSeq_calm (x : Nat) (o : SeqOutcome) (h : Calm s t) : Calm s (removeSeq x o t) := by
  unfold removeSeq
  (repeat' split) <;> simp [*]

@[simp] theorem abandonSeq_calm (x : Nat) (h : Calm s t) : Calm s (abandonSeq x t) := by
  unfold abandonSeq
  try dsimp only
  (repeat' split) <;> simp (maxDischargeDepth := 40) [*]

@[simp] theorem leaveSupply_calm (x : Nat) (h : Calm s t) : Calm s (leaveSupply x t) := by
  unfold leaveSupply
  try dsimp only
  (repeat' split) <;> simp (maxDischargeDepth := 40) [*]

@[simp] theorem enterSupply_calm (x : Nat) (h : Calm s t) : Calm s (enterSupply x t) := by
  unfold enterSupply
  try dsimp only
  (repeat' split) <;> simp (maxDischargeDepth := 40) [*]

@[simp] theorem when_calm (b : Bool) (f : State → State) (h : Calm s t) (k : b = true → Calm s (f t)) : Calm s (when b f t) := by
  unfold when
  split
  · exact k ‹_›
  · exact h

/-! ### A section's change of state -/

/-- What a change of a section's state does after the state itself is calm. -/
theorem changeSection_calm (x : Nat) (new : SectionState) (r : SecRec) (e : t.sec? x = some r) (n : r.state ≠ new) :
    ∃ f : SecRec → SecRec, (∀ q, (f q).index = q.index ∧ (f q).state = new) ∧ Calm (t.modSec x f) (changeSection x new t) := by
  refine ⟨fun q => { q with state := new, lockout := q.lockout && !(r.state == .tripped),
                            reclose := if r.state == .tripped then none else q.reclose }, fun q => ⟨rfl, rfl⟩, ?_⟩
  unfold changeSection
  simp only [e, beq_eq_false_iff_ne.mpr n, Bool.false_eq_true, if_false]
  simp (maxDischargeDepth := 40) [when_calm]

/-- A section's state, read from the list of states. -/
theorem secState_eq (u : State) (x : Nat) : u.secState? x = ((sectionStates u.tpc.sections).find? (·.1 == x)).map (·.2) := by
  unfold State.secState? State.sec? sectionStates
  induction u.tpc.sections with
  | nil => rfl
  | cons r l ih =>
    simp only [List.find?_cons, List.map_cons]
    split <;> simp_all

/-- The state of a section whose records are changed by one that gives every record of an index one state. -/
theorem secState_modSec (u : State) (x y : Nat) (new : SectionState) (f : SecRec → SecRec)
    (k : ∀ q, (f q).index = q.index ∧ (f q).state = new) (m : (u.sec? x).isSome) :
    (u.modSec x f).secState? y = if y = x then some new else u.secState? y := by
  unfold State.secState? State.sec? State.modSec Machine.modify at *
  dsimp only at *
  generalize u.tpc.sections = l at *
  induction l with
  | nil => simp at m
  | cons r l ih =>
    simp only [List.find?_cons, List.map_cons] at m ⊢
    by_cases a : r.index = x
    · simp only [a, beq_self_eq_true, if_true, (k r).1]
      by_cases b : y = x
      · simp [b, (k r).2]
      · have c : (x == y) = false := by simpa using fun h => b h.symm
        simp only [c, b, if_false]
        clear ih m
        induction l with
        | nil => rfl
        | cons q l ih =>
          simp only [List.find?_cons, List.map_cons]
          by_cases d : q.index = x
          · simpa [d, (k q).1, c, b] using ih
          · have i : (q.index == x) = false := by simpa using d
            rcases g : q.index == y with _ | _
            · simpa [i, g] using ih
            · simp [i, g]
    · have c : (r.index == x) = false := by simpa using a
      simp only [c] at m ⊢
      have := ih m
      by_cases b : r.index = y
      · have : y ≠ x := fun h => a (b.trans h)
        simp [b, this]
      · have d : (r.index == y) = false := by simpa using b
        simpa [d] using this

/-- A section that takes a state has it afterwards, and the others keep theirs. -/
theorem changeSection_state (x y : Nat) (new : SectionState) (u : State) (m : (u.sec? x).isSome) :
    (changeSection x new u).secState? y = if y = x then some new else u.secState? y := by
  obtain ⟨r, e⟩ := Option.isSome_iff_exists.mp m
  by_cases n : r.state = new
  · have k : changeSection x new u = u := by simp [changeSection, e, n]
    rw [k]
    split
    · rename_i h
      simp [h, State.secState?, e, n]
    · rfl
  · obtain ⟨f, k, c⟩ := changeSection_calm x new r e n
    rw [secState_eq, c.sections, ← secState_eq]
    exact secState_modSec u x y new f k m

/-! ### Changes that leave the line mode and the incident manager alone -/

/-- The line mode and the incident manager stay. -/
structure Still (s t : State) : Prop where
  mode : t.lmc.mode = s.lmc.mode
  inm : t.inm = s.inm

@[simp] theorem still_refl (s : State) : Still s s := ⟨rfl, rfl⟩

theorem still_trans {s t u : State} (h : Still s t) (k : Still t u) : Still s u := ⟨k.1.trans h.1, k.2.trans h.2⟩

theorem still_of_calm {s t : State} (h : Calm s t) : Still s t := ⟨h.1, h.2⟩

/-- One thing after another for each member of a list. -/
theorem still_forEach {α : Type} (l : List α) (f : α → State → State) (h : Still s t) (k : ∀ x u, Still u (f x u)) :
    Still s (forEach l f t) := by
  unfold forEach
  induction l generalizing t with
  | nil => exact h
  | cons x l ih => exact ih (still_trans h (k x t))

theorem changeSection_still (x : Nat) (new : SectionState) (u : State) : Still u (changeSection x new u) := by
  rcases e : u.sec? x with _ | r
  · simp [changeSection, e]
  · by_cases n : r.state = new
    · simp [changeSection, e, n]
    · obtain ⟨f, _, c⟩ := changeSection_calm x new r e n
      exact ⟨c.mode, c.inm⟩

theorem deenergiseNow_still (x : Nat) (u : State) : Still u (deenergiseNow x u) :=
  still_trans (still_of_calm (by simp (maxDischargeDepth := 40))) (changeSection_still x .dead _)

theorem holdSection_still (x : Nat) (u : State) : Still u (holdSection x u) :=
  still_trans (still_of_calm (by simp (maxDischargeDepth := 40))) (changeSection_still x .held _)

theorem claimDeenergise_still (id x : Nat) (u : State) : Still u (claimDeenergise id x u) := by
  unfold claimDeenergise
  split
  · exact still_refl u
  · dsimp only
    split
    · exact still_trans (still_of_calm (by simp)) (deenergiseNow_still x _)
    · exact still_of_calm (by simp)

theorem nightHold_still (u : State) : Still u (nightHold u) := by
  unfold nightHold
  refine still_forEach _ _ (still_refl u) fun x v => ?_
  split
  · exact holdSection_still x v
  · exact still_refl v

end Sys2Proof.Laws
end

