-- ==== Sys2Proof/Laws/Requests.lean ====
section
/-!
SUPPORT. What a request comes to when it is due and its checks pass, when one fails, and when it is not due; the checks of single
fields; a request that keeps what each part of its answer keeps.
-/

namespace Sys2Proof.Laws

open Sys2Proof.Machine Sys2Proof.Safety

variable {s t : State} {i : Instr} {tag : Nat} {act : State → Checked State}

/-! ### Checks in sequence -/

@[simp] theorem bind_ok {α β : Type} (a : α) (f : α → Checked β) : (Except.ok a : Checked α) >>= f = f a := rfl

@[simp] theorem bind_error {α β : Type} (e : Refused) (f : α → Checked β) : (Except.error e : Checked α) >>= f = .error e := rfl

/-- A sequence of checks passes when each does. -/
theorem bind_eq_ok {α β : Type} {c : Checked α} {f : α → Checked β} {b : β} : c >>= f = .ok b ↔ ∃ a, c = .ok a ∧ f a = .ok b := by
  cases c with
  | error e => exact ⟨nofun, nofun⟩
  | ok a => exact ⟨fun h => ⟨a, rfl, h⟩, fun ⟨_, h, k⟩ => by cases h; exact k⟩

@[simp] theorem require_true (r : Refused) : require true r = .ok () := rfl

@[simp] theorem require_false (r : Refused) : require false r = .error r := rfl

theorem require_eq_ok {b : Bool} {r : Refused} {u : Unit} : require b r = .ok u ↔ b = true := by
  cases b <;> simp [require]

@[simp] theorem need_some {α : Type} (a : α) (r : Refused) : need (some a) r = .ok a := rfl

@[simp] theorem need_none {α : Type} (r : Refused) : need (none : Option α) r = .error r := rfl

@[simp] theorem needField_some {α : Type} (n : String) (a : α) : needField n (some a) = .ok a := rfl

@[simp] theorem needField_none {α : Type} (n : String) : needField n (none : Option α) = .error (badField n) := rfl

/-- A number given in its range passes. -/
@[simp] theorem needIn_given {lo hi n : Nat} (name : String) (a : lo ≤ n) (b : n ≤ hi) : needIn name lo hi (some n) = .ok n := by
  simp [needIn, a, b]

/-- A number absent or out of its range is refused. -/
@[simp] theorem needIn_not {lo hi : Nat} {o : Option Nat} (name : String) (h : ¬ given lo hi o) :
    needIn name lo hi o = .error (badField name) := by
  unfold needIn
  split
  · rename_i n
    exact if_neg fun k => h ⟨n, rfl, k.1, k.2⟩
  · rfl

/-- A number absent, or given in its range, passes. -/
@[simp] theorem maybeIn_fits {lo hi : Nat} {o : Option Nat} (name : String) (h : fits lo hi o) : maybeIn name lo hi o = .ok o := by
  unfold maybeIn
  split
  · rename_i n
    exact if_pos (h n rfl)
  · rfl

/-- A number given out of its range is refused. -/
@[simp] theorem maybeIn_not {lo hi : Nat} {o : Option Nat} (name : String) (h : ¬ fits lo hi o) :
    maybeIn name lo hi o = .error (badField name) := by
  unfold maybeIn
  split
  · rename_i n
    exact if_neg fun k => h fun m e => by cases e; exact k
  · exact absurd (fun m e => nomatch e) h

@[simp] theorem fits_none (lo hi : Nat) : fits lo hi none := nofun

theorem fits_some {lo hi n : Nat} : fits lo hi (some n) ↔ lo ≤ n ∧ n ≤ hi :=
  ⟨fun h => h n rfl, fun h m e => by cases e; exact h⟩

theorem given_some {lo hi n : Nat} : given lo hi (some n) ↔ lo ≤ n ∧ n ≤ hi :=
  ⟨fun ⟨_, e, a, b⟩ => by cases e; exact ⟨a, b⟩, fun h => ⟨n, rfl, h.1, h.2⟩⟩

theorem not_given_none {lo hi : Nat} : ¬ given lo hi none := nofun

/-! ### The request -/

/-- A request that is due and passes its checks ends with its answer, its line gone. -/
theorem takeRequest_ok (h : due i s) (k : act s = .ok t) : takeRequest i tag act s = .next t.popLine := by
  simp [takeRequest, h, State.answer, k]

/-- A request that is due and fails a check sends the refusal, and nothing else changes. -/
theorem takeRequest_error {e : Refused} (h : due i s) (k : act s = .error e) :
    takeRequest i tag act s = .next (s.send (.refused tag e.reason e.details)).popLine := by
  simp [takeRequest, h, State.answer, k]

/-- A request that is not due changes nothing. -/
theorem takeRequest_not (h : ¬ due i s) : takeRequest i tag act s = .next s := by
  simp [takeRequest, h]

/-- What a request leaves: the state itself, a refusal sent, or an accepted answer; in the last two its line has gone. -/
theorem takeRequest_cases (h : takeRequest i tag act s = .next t) :
    t = s ∨ (due i s ∧ ∃ e, act s = .error e ∧ t = (s.send (.refused tag e.reason e.details)).popLine) ∨
      (due i s ∧ ∃ u, act s = .ok u ∧ t = u.popLine) := by
  by_cases d : due i s
  · rcases k : act s with e | u
    · exact .inr (.inl ⟨d, e, rfl, by rw [takeRequest_error d k] at h; injection h with h; exact h.symm⟩)
    · exact .inr (.inr ⟨d, u, rfl, by rw [takeRequest_ok d k] at h; injection h with h; exact h.symm⟩)
  · rw [takeRequest_not d] at h
    injection h with h
    exact .inl h.symm

/-! ### The words of the statements -/

/-- A failing check is the refusal the statements name. -/
theorem refusedWith_of {r : Reason} {d : List Field} (x : exec i s = takeRequest i tag act s) (h : due i s)
    (k : act s = .error ⟨r, d⟩) : refusedWith i tag r d s := by
  unfold refusedWith
  rw [x, takeRequest_error h k]

theorem refusedFor_of {r : Reason} {d : List Field} (x : exec i s = takeRequest i tag act s) (h : due i s)
    (k : act s = .error ⟨r, d⟩) : refusedFor i tag r s := ⟨d, refusedWith_of x h k⟩

theorem badlyFilled_of {name : String} (x : exec i s = takeRequest i tag act s) (h : due i s)
    (k : act s = .error (badField name)) : badlyFilled i tag name s := refusedWith_of x h k

/-- Passing checks are the accepted request the statements name. -/
theorem accepted_of {fields : List Field} (x : exec i s = takeRequest i tag act s) (h : due i s)
    (k : act s = .ok (t.ok tag fields)) : accepted i tag s t fields := by
  unfold accepted
  rw [x, takeRequest_ok h k]

theorem exists_accepted_of (x : exec i s = takeRequest i tag act s) (h : due i s)
    (k : ∃ f, act s = .ok (t.ok tag f)) : ∃ f, accepted i tag s t f :=
  k.imp fun _ k => accepted_of x h k

/-- An answered query is the list the statements name. -/
theorem listed_of {n : NoticeKind} {l : List (String × List Field)} (x : exec i s = takeRequest i tag act s) (h : due i s)
    (k : act s = .ok ((s.clearFlag n).replyBlock tag l)) : listed i tag n s l := by
  unfold listed
  rw [x, takeRequest_ok h k]

end Sys2Proof.Laws
end

