-- ==== Sys2Proof/Laws/Keeps.lean ====
section
/-!
SUPPORT. The laws of `Safety.Keeps`: what stays within keeps; the changes of the standing part that keep; a request that keeps; the
patterns, the tries and the received frames.
-/

namespace Sys2Proof.Laws

open Sys2Proof.Machine Sys2Proof.Safety

variable {s t u : State}

/-! ### The relation -/

theorem keeps_refl (s : State) : Keeps s s := ⟨rfl, rfl, List.prefix_refl _, id⟩

theorem keeps_trans (h : Keeps s t) (k : Keeps t u) : Keeps s u :=
  ⟨k.pending.trans h.pending, k.survey.trans h.survey, h.sent.trans k.sent, fun c => k.capacity (h.capacity c)⟩

/-- What stays within keeps. -/
theorem keeps_of_within (h : Within s t) : Keeps s t :=
  ⟨congrArg Standing.pending h.standing, congrArg Standing.survey h.standing, h.sent, h.capacity⟩

/-- The settling at the end of a step keeps. -/
theorem keeps_conclude (s : State) : Keeps s s.conclude := keeps_of_within (conclude_within (within_refl s))

/-! ### One component -/

/-- A change of the mode state that neither enters nor leaves SURVEY and keeps line time in its range. -/
theorem keeps_lmc (x : Lmc) (k : (x.mode == .survey) = (s.lmc.mode == .survey)) (l : s.lmc.lineTime < 86400 → x.lineTime < 86400) :
    Keeps s { s with lmc := x } :=
  ⟨rfl, k, List.prefix_refl _, fun c => ⟨c.1, c.2, c.3, c.4, c.5, l c.6, c.7, c.8, c.9, c.10, c.11, c.12, c.13, c.14, c.15⟩⟩

/-- A change of the store that keeps the four slots, the room of the other list and that of the staging buffer. -/
theorem keeps_lst (x : Lst) (k : x.slots.length = s.lst.slots.length) (l : s.lst.otherList.length ≤ 4 → x.otherList.length ≤ 4)
    (m : s.lst.buffer.length ≤ 1024 ∧ pointCount s.lst.buffer ≤ 16384 → x.buffer.length ≤ 1024 ∧ pointCount x.buffer ≤ 16384) :
    Keeps s { s with lst := x } :=
  ⟨rfl, rfl, List.prefix_refl _, fun c => ⟨c.1, c.2, c.3, c.4, c.5, c.6, k.trans c.7, l c.8, c.9, c.10, c.11, c.12, c.13, c.14, m c.15⟩⟩

/-- A change of the control link that takes back no line and keeps the room of the inbound queue. -/
theorem keeps_clp (x : Clp) (k : s.clp.sent <+: x.sent) (l : s.clp.inbound.length ≤ 8 → x.inbound.length ≤ 8) :
    Keeps s { s with clp := x } :=
  ⟨rfl, rfl, k, fun c => ⟨l c.1, c.2, c.3, c.4, c.5, c.6, c.7, c.8, c.9, c.10, c.11, c.12, c.13, c.14, c.15⟩⟩

/-- A change of the link controller that keeps its capacities. -/
theorem keeps_wlc (x : Wlc) (a : s.wlc.outQueue.length ≤ 32 → x.outQueue.length ≤ 32) (b : s.wlc.seqCounter < 16 → x.seqCounter < 16)
    (c : s.wlc.inBuffer.length ≤ 16 → x.inBuffer.length ≤ 16) (d : x.patterns.length = s.wlc.patterns.length) :
    Keeps s { s with wlc := x } :=
  ⟨rfl, rfl, List.prefix_refl _,
    fun e => ⟨e.1, a e.2, b e.3, c e.4, d.trans e.5, e.6, e.7, e.8, e.9, e.10, e.11, e.12, e.13, e.14, e.15⟩⟩

/-- A change of the tracker's tables that keeps the room of the train table. -/
theorem keeps_trk (x : Trk) (k : s.trk.trains.length ≤ 48 → x.trains.length ≤ 48) : Keeps s { s with trk := x } :=
  ⟨rfl, rfl, List.prefix_refl _, fun c => ⟨c.1, c.2, c.3, c.4, c.5, c.6, c.7, c.8, c.9, c.10, c.11, c.12, k c.13, c.14, c.15⟩⟩

/-- A change of the regulator's tables keeps. -/
theorem keeps_srg (x : Srg) : Keeps s { s with srg := x } :=
  ⟨rfl, rfl, List.prefix_refl _, fun c => ⟨c.1, c.2, c.3, c.4, c.5, c.6, c.7, c.8, c.9, c.10, c.11, c.12, c.13, c.14, c.15⟩⟩

/-- A change of the incident manager that keeps the room of its table and of the links. -/
theorem keeps_inm (x : Inm) (k : s.inm.incidents.length ≤ 32 → x.incidents.length ≤ 32)
    (l : (∀ i ∈ s.inm.incidents, i.links.length ≤ 8) → ∀ i ∈ x.incidents, i.links.length ≤ 8) : Keeps s { s with inm := x } :=
  ⟨rfl, rfl, List.prefix_refl _, fun c => ⟨c.1, c.2, c.3, c.4, c.5, c.6, c.7, c.8, c.9, c.10, k c.11, c.12, c.13, l c.14, c.15⟩⟩

/-! ### Requests -/

theorem keeps_popLine (s : State) : Keeps s s.popLine :=
  keeps_clp _ (List.prefix_refl _) fun k => by simp only [List.length_tail]; omega

theorem keeps_send (l : OutLine) (s : State) : Keeps s (s.send l) := keeps_of_within (send_within l (within_refl s))

theorem keeps_ok (tag : Nat) (f : List Field) (s : State) : Keeps s (s.ok tag f) := keeps_of_within (ok_within tag f (within_refl s))

/-- A request keeps when each of its accepted answers does. -/
theorem takeRequest_keeps {i : Instr} {tag : Nat} {act : State → Checked State} (h : takeRequest i tag act s = .next t)
    (k : ∀ u, act s = .ok u → Keeps s u) : Keeps s t := by
  rcases takeRequest_cases h with rfl | ⟨_, _, _, rfl⟩ | ⟨_, u, e, rfl⟩
  · exact keeps_refl _
  · exact keeps_trans (keeps_send _ _) (keeps_popLine _)
  · exact keeps_trans (k u e) (keeps_popLine u)

/-! ### The store -/

theorem keeps_modSlot (i : Nat) (f : Slot → Slot) (s : State) : Keeps s (s.modSlot i f) :=
  keeps_lst _ (List.length_modify ..) id id

theorem keeps_placeOtherOp (op : StoreOp) (s : State) (r : s.otherRoom = true) : Keeps s (s.placeOtherOp op) := by
  refine keeps_trans (keeps_lst { s.lst with otherList := s.lst.otherList ++ [op] } rfl (fun _ => ?_) id)
    (keeps_of_within (startOp_within (within_refl _)))
  simp only [State.otherRoom, decide_eq_true_eq] at r
  simp only [List.length_append, List.length_singleton]
  omega

theorem keeps_setIndices (a b : Option Nat) (s : State) : Keeps s (s.setIndices a b) :=
  keeps_trans (keeps_lst { s.lst with active := a, scheduled := b, indexDue := true } rfl id id)
    (keeps_of_within (startOp_within (placeIndex_within (updateReadiness_within (storeNotice_within _ _ _ (within_refl _))))))

/-! ### The link -/

theorem keeps_modPattern (i : Nat) (f : Pattern → Pattern) (s : State) : Keeps s (s.modPattern i f) :=
  keeps_wlc _ id id id (List.length_modify ..)

theorem keeps_patternAct (i : Nat) (p : Pattern) (f : WireFrame) (s : State) : Keeps s (patternAct i p f s) := by
  have k := keeps_trans (keeps_modPattern i (fun q => { q with matched := saturate 65535 q.matched }) s)
    (keeps_of_within (raised_within p.cls p.severity (patternLocation s.desc p.location (frameSender f)) (.pattern i)
      (within_refl _)))
  unfold patternAct
  refine keeps_trans (keeps_trans k ?_) (keeps_of_within (patternNotice_within _ _ (within_refl _)))
  split
  · exact keeps_modPattern i _ _
  · exact keeps_refl _

/-- One thing after another for each member of a list. -/
theorem keeps_forEach {α : Type} (l : List α) (f : α → State → State) (s : State) (k : ∀ x u, Keeps u (f x u)) :
    Keeps s (forEach l f s) := by
  unfold forEach
  induction l generalizing s with
  | nil => exact keeps_refl s
  | cons x l ih => exact keeps_trans (k x s) (ih _)

theorem keeps_matchPatterns (k : InKind) (f : WireFrame) (s : State) : Keeps s (matchPatterns k f s) := by
  unfold matchPatterns
  split
  · refine keeps_forEach _ _ s fun i t => ?_
    (repeat' split) <;> first | exact keeps_patternAct _ _ _ t | exact keeps_refl t
  · exact keeps_refl s

theorem keeps_popFrame (s : State) : Keeps s (popFrame s) :=
  keeps_wlc _ id id (fun k => by simp only [List.length_tail]; omega) rfl

theorem keeps_startTry (rivals : List Rival) (s : State) : Keeps s (startTry rivals s) := by
  unfold startTry
  split
  · rename_i q
    split
    · exact keeps_wlc _ id id id rfl
    · exact keeps_wlc _ (fun k => by simpa [q] using k) id id rfl
  · exact keeps_refl s

theorem keeps_endTry (mark : Bool) (s : State) : Keeps s (endTry mark s) := by
  unfold endTry
  split
  · dsimp only
    have k : Keeps s { s with wlc.line := .free } := keeps_wlc _ id id id rfl
    split
    · exact k
    · split
      · refine keeps_trans k (keeps_of_within ?_)
        split
        · exact tryMarked_within _ (within_refl _)
        · exact tryDelivered_within _ (within_refl _)
      · exact k
  · exact keeps_refl s

theorem keeps_receiveFrame (f : WireFrame) (mark : Bool) (s : State) : Keeps s (receiveFrame f mark s) := by
  unfold receiveFrame
  split
  · exact keeps_refl s
  · dsimp only
    split
    · exact keeps_wlc _ id id id rfl
    · rename_i r
      refine keeps_wlc _ id id (fun _ => ?_) rfl
      simp only [rejects, Bool.or_eq_true, Bool.not_eq_true', decide_eq_true_eq, not_or, Nat.not_le] at r
      simp only [List.length_append, List.length_singleton]
      omega

/-- An accepted frame keeps when its block does. -/
theorem keeps_acceptFrame (k : InKind) (act : Nat → List Octet → State → State) (s : State)
    (h : ∀ a p u, Keeps u (act a p u)) : Keeps s (acceptFrame k act s) := by
  unfold acceptFrame
  split
  · exact keeps_refl s
  · split
    · dsimp only
      refine keeps_trans (keeps_trans ?_ (keeps_trans (h _ _ _) (keeps_popFrame _))) (keeps_conclude _)
      exact keeps_trans (keeps_of_within (modUnit_within _ _ (hear_within _ (within_refl s)))) (keeps_matchPatterns k _ _)
    · exact keeps_refl s

theorem keeps_discardFrame (s : State) : Keeps s (discardFrame s) := by
  unfold discardFrame
  split
  · exact keeps_refl s
  · split
    · exact keeps_refl s
    · exact keeps_trans (keeps_trans (keeps_of_within (hear_within _ (within_refl s))) (keeps_popFrame _)) (keeps_conclude _)
    · exact keeps_trans (keeps_popFrame s) (keeps_conclude _)

end Sys2Proof.Laws
end

