-- ==== Sys2Proof/WellFormed.lean ====
section
/-!
DEFINITION. Which commands could come from outside at all: what is checked here is what the two links' formats and the manual's
index ranges already ensure, so that no other rule needs to say it again.
-/

namespace Sys2Proof

/-- The tag of a request (R179). -/
def tagOk (n : Nat) : Bool := decide (1 ≤ n ∧ n ≤ 9999)

/-- A character that may stand in a line as it arrives: a printable one, or the carriage return before the line feed (R179). -/
def charOk (c : Char) : Bool := decide (32 ≤ c.toNat ∧ c.toNat ≤ 126) || decide (c.toNat = 13)

/-- A unit that may contend for the line: units have addresses 1 to 1,022 (00_scope.md, R21). -/
def rivalOk (r : Rival) : Bool := decide (1 ≤ r.address.toNat ∧ r.address.toNat ≤ 1022)

/-- A frame a unit can have sent carries at most the 63 octets its length field can count (R184). -/
def frameOk (f : WireFrame) : Bool := decide (f.payload.length ≤ 63)

def trainNumberOk (n : Nat) : Bool := decide (1 ≤ n ∧ n ≤ 999)
def addressOk (n : Nat) : Bool := decide (1 ≤ n ∧ n ≤ 1022)
def sectionOk (n : Nat) : Bool := decide (n ≤ 23)
def breakerOk (n : Nat) : Bool := decide (n ≤ 47)
def stationOk (n : Nat) : Bool := decide (n ≤ 31)
def platformOk (n : Nat) : Bool := decide (n ≤ 63)
def byteIdOk (n : Nat) : Bool := decide (1 ≤ n ∧ n ≤ 255)
def incidentOk (n : Nat) : Bool := decide (1 ≤ n ∧ n ≤ 65535)
def tripOk (n : Nat) : Bool := decide (1 ≤ n ∧ n ≤ 9999)

/-- The commands that could come from outside (00_scope.md, Indices; R21, R65, R179, R184). -/
def Instr.wellFormed : Instr → Bool
  | .powerOn _ => true
  | .restartStart _ => true
  | .secondTick => true
  | .trafficDayBoundary => true
  | .tripLapse n => tripOk n
  | .lineArrival cs => cs.all charOk
  | .unknownRequest => true
  | .lineLoadBegin t => tagOk t
  | .lineLoadRecord t _ => tagOk t
  | .lineLoadCommit t => tagOk t
  | .timeSet t _ => tagOk t
  | .unitQuery t _ => tagOk t
  | .patternSet t _ => tagOk t
  | .patternArm t => tagOk t
  | .patternQuery t _ => tagOk t
  | .stallLimitSet t _ => tagOk t
  | .trainSetNumber t _ _ _ => tagOk t
  | .trainSetDraw t _ _ => tagOk t
  | .trainWithdraw t _ => tagOk t
  | .trainQuery t _ _ => tagOk t
  | .storeQuery t => tagOk t
  | .ttOpen t _ _ => tagOk t
  | .ttAbandon t _ => tagOk t
  | .ttAddTrip t _ => tagOk t
  | .ttClose t _ => tagOk t
  | .ttActivate t _ => tagOk t
  | .ttSchedule t _ => tagOk t
  | .ttQuery t _ _ => tagOk t
  | .tripAssign t _ _ => tagOk t
  | .tripCancel t _ => tagOk t
  | .tripQuery t _ _ => tagOk t
  | .holdTrain t _ => tagOk t
  | .releaseTrain t _ => tagOk t
  | .holdPlatform t _ => tagOk t
  | .releasePlatform t _ => tagOk t
  | .regulationSet t _ => tagOk t
  | .delaySet t _ _ => tagOk t
  | .authorityClear t _ => tagOk t
  | .learnSet t _ _ _ _ => tagOk t
  | .learnReset t _ => tagOk t
  | .learnQuery t _ => tagOk t
  | .energise t _ => tagOk t
  | .energiseAll t => tagOk t
  | .deenergise t _ => tagOk t
  | .breakerCommand t _ _ => tagOk t
  | .holdRelease t _ => tagOk t
  | .sectionQuery t _ _ => tagOk t
  | .permitRequest t _ _ => tagOk t
  | .permitCancel t _ => tagOk t
  | .permitSurrender t _ _ => tagOk t
  | .permitQuery t _ _ => tagOk t
  | .escalationSet t _ _ => tagOk t
  | .responseSet t _ => tagOk t
  | .incidentRaise t _ _ _ _ => tagOk t
  | .incidentAck t _ _ => tagOk t
  | .incidentContain t _ _ => tagOk t
  | .incidentClose t _ _ => tagOk t
  | .incidentRelease t _ _ _ => tagOk t
  | .incidentRetire t _ => tagOk t
  | .incidentQuery t _ _ => tagOk t
  | .templateLoad t _ _ => tagOk t
  | .announce t _ => tagOk t
  | .withdraw t _ => tagOk t
  | .announceQuery t _ _ => tagOk t
  | .zoneQuery t _ => tagOk t
  | .modeRequest t _ _ => tagOk t
  | .restart t => tagOk t
  | .surveyEnd t _ => tagOk t
  | .statusQuery t => tagOk t
  | .tryStart rs => rs.all rivalOk
  | .tryEnd _ => true
  | .frameReceive f _ => frameOk f
  | .trackEvent => true
  | .trackStatus => true
  | .revokeEcho => true
  | .powerStatus => true
  | .selectEcho => true
  | .stationStatus => true
  | .playEnd => true
  | .alarm => true
  | .pollPoint a => addressOk a
  | .silenceExpiry a => addressOk a
  | .stallExpiry n => trainNumberOk n
  | .escalationExpiry i => incidentOk i
  | .targetExpiry n => trainNumberOk n
  | .retryExpiry n => trainNumberOk n
  | .authorityLapse n => trainNumberOk n
  | .revokeEchoLimit n => trainNumberOk n
  | .departureWaitExpiry n => trainNumberOk n
  | .startWindowExpiry n => trainNumberOk n
  | .regenerationWindowExpiry x => sectionOk x
  | .selectWindowExpiry b => breakerOk b
  | .operateLimitExpiry b => breakerOk b
  | .recloseDelayExpiry x => sectionOk x
  | .lockoutSpanExpiry x => sectionOk x
  | .voltageConfirmExpiry x => sectionOk x
  | .isolationConfirmExpiry x => sectionOk x
  | .permitWriteCompletion _ => true
  | .permitEraseCompletion _ => true
  | .templateWriteCompletion _ => true
  | .responseWriteCompletion _ => true
  | .indexWriteCompletion _ => true
  | .commitPageCompletion _ => true
  | .lineDescriptionCompletion _ => true
  | .entryExpiry e => byteIdOk e
  | .deliveryEligible e st => byteIdOk e && stationOk st
  | .playLimitExpiry st => stationOk st
  | .displayRefreshExpiry p => platformOk p
  | .inboundFrameDiscarded => true

end Sys2Proof
end

