-- ==== Sys2Proof/Laws/PerInstr.lean ====
section
/-!
SUPPORT. The family "Tagged": a well-formed request's tag is one that a line may carry. One lemma for each command.
-/

namespace Sys2Proof.Laws.Tagged

open Sys2Proof

/-- The tag of a request; the other commands have none. -/
def tagOf : Instr → Option Nat
  | .lineLoadBegin t => some t
  | .lineLoadRecord t _ => some t
  | .lineLoadCommit t => some t
  | .timeSet t _ => some t
  | .unitQuery t _ => some t
  | .patternSet t _ => some t
  | .patternArm t => some t
  | .patternQuery t _ => some t
  | .stallLimitSet t _ => some t
  | .trainSetNumber t _ _ _ => some t
  | .trainSetDraw t _ _ => some t
  | .trainWithdraw t _ => some t
  | .trainQuery t _ _ => some t
  | .storeQuery t => some t
  | .ttOpen t _ _ => some t
  | .ttAbandon t _ => some t
  | .ttAddTrip t _ => some t
  | .ttClose t _ => some t
  | .ttActivate t _ => some t
  | .ttSchedule t _ => some t
  | .ttQuery t _ _ => some t
  | .tripAssign t _ _ => some t
  | .tripCancel t _ => some t
  | .tripQuery t _ _ => some t
  | .holdTrain t _ => some t
  | .releaseTrain t _ => some t
  | .holdPlatform t _ => some t
  | .releasePlatform t _ => some t
  | .regulationSet t _ => some t
  | .delaySet t _ _ => some t
  | .authorityClear t _ => some t
  | .learnSet t _ _ _ _ => some t
  | .learnReset t _ => some t
  | .learnQuery t _ => some t
  | .energise t _ => some t
  | .energiseAll t => some t
  | .deenergise t _ => some t
  | .breakerCommand t _ _ => some t
  | .holdRelease t _ => some t
  | .sectionQuery t _ _ => some t
  | .permitRequest t _ _ => some t
  | .permitCancel t _ => some t
  | .permitSurrender t _ _ => some t
  | .permitQuery t _ _ => some t
  | .escalationSet t _ _ => some t
  | .responseSet t _ => some t
  | .incidentRaise t _ _ _ _ => some t
  | .incidentAck t _ _ => some t
  | .incidentContain t _ _ => some t
  | .incidentClose t _ _ => some t
  | .incidentRelease t _ _ _ => some t
  | .incidentRetire t _ => some t
  | .incidentQuery t _ _ => some t
  | .templateLoad t _ _ => some t
  | .announce t _ => some t
  | .withdraw t _ => some t
  | .announceQuery t _ _ => some t
  | .zoneQuery t _ => some t
  | .modeRequest t _ _ => some t
  | .restart t => some t
  | .surveyEnd t _ => some t
  | .statusQuery t => some t
  | _ => none

/-- A well-formed request has a tag from 1 to 9,999 (R179). -/
def Statement (i : Instr) : Prop := i.wellFormed = true → ∀ t, tagOf i = some t → 1 ≤ t ∧ t ≤ 9999

theorem of_tag {i : Instr} {n : Nat} (h : tagOf i = some n) (k : i.wellFormed = tagOk n) : Statement i := by
  intro w t e
  rw [h] at e
  cases e
  rw [k] at w
  simpa [tagOk] using w

theorem of_none {i : Instr} (h : tagOf i = none) : Statement i := by
  intro _ t e
  rw [h] at e
  cases e

theorem powerOn : ∀ a0, Statement (.powerOn a0) := fun _ => of_none rfl
theorem restartStart : ∀ a0, Statement (.restartStart a0) := fun _ => of_none rfl
theorem secondTick : Statement (.secondTick) := of_none rfl
theorem trafficDayBoundary : Statement (.trafficDayBoundary) := of_none rfl
theorem tripLapse : ∀ a0, Statement (.tripLapse a0) := fun _ => of_none rfl
theorem lineArrival : ∀ a0, Statement (.lineArrival a0) := fun _ => of_none rfl
theorem unknownRequest : Statement (.unknownRequest) := of_none rfl
theorem lineLoadBegin : ∀ a0, Statement (.lineLoadBegin a0) := fun _ => of_tag rfl rfl
theorem lineLoadRecord : ∀ a0 a1, Statement (.lineLoadRecord a0 a1) := fun _ _ => of_tag rfl rfl
theorem lineLoadCommit : ∀ a0, Statement (.lineLoadCommit a0) := fun _ => of_tag rfl rfl
theorem timeSet : ∀ a0 a1, Statement (.timeSet a0 a1) := fun _ _ => of_tag rfl rfl
theorem unitQuery : ∀ a0 a1, Statement (.unitQuery a0 a1) := fun _ _ => of_tag rfl rfl
theorem patternSet : ∀ a0 a1, Statement (.patternSet a0 a1) := fun _ _ => of_tag rfl rfl
theorem patternArm : ∀ a0, Statement (.patternArm a0) := fun _ => of_tag rfl rfl
theorem patternQuery : ∀ a0 a1, Statement (.patternQuery a0 a1) := fun _ _ => of_tag rfl rfl
theorem stallLimitSet : ∀ a0 a1, Statement (.stallLimitSet a0 a1) := fun _ _ => of_tag rfl rfl
theorem trainSetNumber : ∀ a0 a1 a2 a3, Statement (.trainSetNumber a0 a1 a2 a3) := fun _ _ _ _ => of_tag rfl rfl
theorem trainSetDraw : ∀ a0 a1 a2, Statement (.trainSetDraw a0 a1 a2) := fun _ _ _ => of_tag rfl rfl
theorem trainWithdraw : ∀ a0 a1, Statement (.trainWithdraw a0 a1) := fun _ _ => of_tag rfl rfl
theorem trainQuery : ∀ a0 a1 a2, Statement (.trainQuery a0 a1 a2) := fun _ _ _ => of_tag rfl rfl
theorem storeQuery : ∀ a0, Statement (.storeQuery a0) := fun _ => of_tag rfl rfl
theorem ttOpen : ∀ a0 a1 a2, Statement (.ttOpen a0 a1 a2) := fun _ _ _ => of_tag rfl rfl
theorem ttAbandon : ∀ a0 a1, Statement (.ttAbandon a0 a1) := fun _ _ => of_tag rfl rfl
theorem ttAddTrip : ∀ a0 a1, Statement (.ttAddTrip a0 a1) := fun _ _ => of_tag rfl rfl
theorem ttClose : ∀ a0 a1, Statement (.ttClose a0 a1) := fun _ _ => of_tag rfl rfl
theorem ttActivate : ∀ a0 a1, Statement (.ttActivate a0 a1) := fun _ _ => of_tag rfl rfl
theorem ttSchedule : ∀ a0 a1, Statement (.ttSchedule a0 a1) := fun _ _ => of_tag rfl rfl
theorem ttQuery : ∀ a0 a1 a2, Statement (.ttQuery a0 a1 a2) := fun _ _ _ => of_tag rfl rfl
theorem tripAssign : ∀ a0 a1 a2, Statement (.tripAssign a0 a1 a2) := fun _ _ _ => of_tag rfl rfl
theorem tripCancel : ∀ a0 a1, Statement (.tripCancel a0 a1) := fun _ _ => of_tag rfl rfl
theorem tripQuery : ∀ a0 a1 a2, Statement (.tripQuery a0 a1 a2) := fun _ _ _ => of_tag rfl rfl
theorem holdTrain : ∀ a0 a1, Statement (.holdTrain a0 a1) := fun _ _ => of_tag rfl rfl
theorem releaseTrain : ∀ a0 a1, Statement (.releaseTrain a0 a1) := fun _ _ => of_tag rfl rfl
theorem holdPlatform : ∀ a0 a1, Statement (.holdPlatform a0 a1) := fun _ _ => of_tag rfl rfl
theorem releasePlatform : ∀ a0 a1, Statement (.releasePlatform a0 a1) := fun _ _ => of_tag rfl rfl
theorem regulationSet : ∀ a0 a1, Statement (.regulationSet a0 a1) := fun _ _ => of_tag rfl rfl
theorem delaySet : ∀ a0 a1 a2, Statement (.delaySet a0 a1 a2) := fun _ _ _ => of_tag rfl rfl
theorem authorityClear : ∀ a0 a1, Statement (.authorityClear a0 a1) := fun _ _ => of_tag rfl rfl
theorem learnSet : ∀ a0 a1 a2 a3 a4, Statement (.learnSet a0 a1 a2 a3 a4) := fun _ _ _ _ _ => of_tag rfl rfl
theorem learnReset : ∀ a0 a1, Statement (.learnReset a0 a1) := fun _ _ => of_tag rfl rfl
theorem learnQuery : ∀ a0 a1, Statement (.learnQuery a0 a1) := fun _ _ => of_tag rfl rfl
theorem energise : ∀ a0 a1, Statement (.energise a0 a1) := fun _ _ => of_tag rfl rfl
theorem energiseAll : ∀ a0, Statement (.energiseAll a0) := fun _ => of_tag rfl rfl
theorem deenergise : ∀ a0 a1, Statement (.deenergise a0 a1) := fun _ _ => of_tag rfl rfl
theorem breakerCommand : ∀ a0 a1 a2, Statement (.breakerCommand a0 a1 a2) := fun _ _ _ => of_tag rfl rfl
theorem holdRelease : ∀ a0 a1, Statement (.holdRelease a0 a1) := fun _ _ => of_tag rfl rfl
theorem sectionQuery : ∀ a0 a1 a2, Statement (.sectionQuery a0 a1 a2) := fun _ _ _ => of_tag rfl rfl
theorem permitRequest : ∀ a0 a1 a2, Statement (.permitRequest a0 a1 a2) := fun _ _ _ => of_tag rfl rfl
theorem permitCancel : ∀ a0 a1, Statement (.permitCancel a0 a1) := fun _ _ => of_tag rfl rfl
theorem permitSurrender : ∀ a0 a1 a2, Statement (.permitSurrender a0 a1 a2) := fun _ _ _ => of_tag rfl rfl
theorem permitQuery : ∀ a0 a1 a2, Statement (.permitQuery a0 a1 a2) := fun _ _ _ => of_tag rfl rfl
theorem escalationSet : ∀ a0 a1 a2, Statement (.escalationSet a0 a1 a2) := fun _ _ _ => of_tag rfl rfl
theorem responseSet : ∀ a0 a1, Statement (.responseSet a0 a1) := fun _ _ => of_tag rfl rfl
theorem incidentRaise : ∀ a0 a1 a2 a3 a4, Statement (.incidentRaise a0 a1 a2 a3 a4) := fun _ _ _ _ _ => of_tag rfl rfl
theorem incidentAck : ∀ a0 a1 a2, Statement (.incidentAck a0 a1 a2) := fun _ _ _ => of_tag rfl rfl
theorem incidentContain : ∀ a0 a1 a2, Statement (.incidentContain a0 a1 a2) := fun _ _ _ => of_tag rfl rfl
theorem incidentClose : ∀ a0 a1 a2, Statement (.incidentClose a0 a1 a2) := fun _ _ _ => of_tag rfl rfl
theorem incidentRelease : ∀ a0 a1 a2 a3, Statement (.incidentRelease a0 a1 a2 a3) := fun _ _ _ _ => of_tag rfl rfl
theorem incidentRetire : ∀ a0 a1, Statement (.incidentRetire a0 a1) := fun _ _ => of_tag rfl rfl
theorem incidentQuery : ∀ a0 a1 a2, Statement (.incidentQuery a0 a1 a2) := fun _ _ _ => of_tag rfl rfl
theorem templateLoad : ∀ a0 a1 a2, Statement (.templateLoad a0 a1 a2) := fun _ _ _ => of_tag rfl rfl
theorem announce : ∀ a0 a1, Statement (.announce a0 a1) := fun _ _ => of_tag rfl rfl
theorem withdraw : ∀ a0 a1, Statement (.withdraw a0 a1) := fun _ _ => of_tag rfl rfl
theorem announceQuery : ∀ a0 a1 a2, Statement (.announceQuery a0 a1 a2) := fun _ _ _ => of_tag rfl rfl
theorem zoneQuery : ∀ a0 a1, Statement (.zoneQuery a0 a1) := fun _ _ => of_tag rfl rfl
theorem modeRequest : ∀ a0 a1 a2, Statement (.modeRequest a0 a1 a2) := fun _ _ _ => of_tag rfl rfl
theorem restart : ∀ a0, Statement (.restart a0) := fun _ => of_tag rfl rfl
theorem surveyEnd : ∀ a0 a1, Statement (.surveyEnd a0 a1) := fun _ _ => of_tag rfl rfl
theorem statusQuery : ∀ a0, Statement (.statusQuery a0) := fun _ => of_tag rfl rfl
theorem tryStart : ∀ a0, Statement (.tryStart a0) := fun _ => of_none rfl
theorem tryEnd : ∀ a0, Statement (.tryEnd a0) := fun _ => of_none rfl
theorem frameReceive : ∀ a0 a1, Statement (.frameReceive a0 a1) := fun _ _ => of_none rfl
theorem trackEvent : Statement (.trackEvent) := of_none rfl
theorem trackStatus : Statement (.trackStatus) := of_none rfl
theorem revokeEcho : Statement (.revokeEcho) := of_none rfl
theorem powerStatus : Statement (.powerStatus) := of_none rfl
theorem selectEcho : Statement (.selectEcho) := of_none rfl
theorem stationStatus : Statement (.stationStatus) := of_none rfl
theorem playEnd : Statement (.playEnd) := of_none rfl
theorem alarm : Statement (.alarm) := of_none rfl
theorem pollPoint : ∀ a0, Statement (.pollPoint a0) := fun _ => of_none rfl
theorem silenceExpiry : ∀ a0, Statement (.silenceExpiry a0) := fun _ => of_none rfl
theorem stallExpiry : ∀ a0, Statement (.stallExpiry a0) := fun _ => of_none rfl
theorem escalationExpiry : ∀ a0, Statement (.escalationExpiry a0) := fun _ => of_none rfl
theorem targetExpiry : ∀ a0, Statement (.targetExpiry a0) := fun _ => of_none rfl
theorem retryExpiry : ∀ a0, Statement (.retryExpiry a0) := fun _ => of_none rfl
theorem authorityLapse : ∀ a0, Statement (.authorityLapse a0) := fun _ => of_none rfl
theorem revokeEchoLimit : ∀ a0, Statement (.revokeEchoLimit a0) := fun _ => of_none rfl
theorem departureWaitExpiry : ∀ a0, Statement (.departureWaitExpiry a0) := fun _ => of_none rfl
theorem startWindowExpiry : ∀ a0, Statement (.startWindowExpiry a0) := fun _ => of_none rfl
theorem regenerationWindowExpiry : ∀ a0, Statement (.regenerationWindowExpiry a0) := fun _ => of_none rfl
theorem selectWindowExpiry : ∀ a0, Statement (.selectWindowExpiry a0) := fun _ => of_none rfl
theorem operateLimitExpiry : ∀ a0, Statement (.operateLimitExpiry a0) := fun _ => of_none rfl
theorem recloseDelayExpiry : ∀ a0, Statement (.recloseDelayExpiry a0) := fun _ => of_none rfl
theorem lockoutSpanExpiry : ∀ a0, Statement (.lockoutSpanExpiry a0) := fun _ => of_none rfl
theorem voltageConfirmExpiry : ∀ a0, Statement (.voltageConfirmExpiry a0) := fun _ => of_none rfl
theorem isolationConfirmExpiry : ∀ a0, Statement (.isolationConfirmExpiry a0) := fun _ => of_none rfl
theorem permitWriteCompletion : ∀ a0, Statement (.permitWriteCompletion a0) := fun _ => of_none rfl
theorem permitEraseCompletion : ∀ a0, Statement (.permitEraseCompletion a0) := fun _ => of_none rfl
theorem templateWriteCompletion : ∀ a0, Statement (.templateWriteCompletion a0) := fun _ => of_none rfl
theorem responseWriteCompletion : ∀ a0, Statement (.responseWriteCompletion a0) := fun _ => of_none rfl
theorem indexWriteCompletion : ∀ a0, Statement (.indexWriteCompletion a0) := fun _ => of_none rfl
theorem commitPageCompletion : ∀ a0, Statement (.commitPageCompletion a0) := fun _ => of_none rfl
theorem lineDescriptionCompletion : ∀ a0, Statement (.lineDescriptionCompletion a0) := fun _ => of_none rfl
theorem entryExpiry : ∀ a0, Statement (.entryExpiry a0) := fun _ => of_none rfl
theorem deliveryEligible : ∀ a0 a1, Statement (.deliveryEligible a0 a1) := fun _ _ => of_none rfl
theorem playLimitExpiry : ∀ a0, Statement (.playLimitExpiry a0) := fun _ => of_none rfl
theorem displayRefreshExpiry : ∀ a0, Statement (.displayRefreshExpiry a0) := fun _ => of_none rfl
theorem inboundFrameDiscarded : Statement (.inboundFrameDiscarded) := of_none rfl

end Sys2Proof.Laws.Tagged
end

