-- ==== Sys2Proof/Laws/Raises.lean ====
section
/-!
SUPPORT. The mode a change of mode comes to; what a response leaves of the incident table; the three outcomes of a raise.
-/

namespace Sys2Proof.Laws

open Sys2Proof.Machine Sys2Proof.Safety

variable {s t : State}

/-! ### The change of mode -/

theorem trackMode_calm (old new : Mode) (u : State) : Calm u (trackMode old new u) := by
  unfold trackMode
  split
  · exact calm_forEach _ _ (calm_refl u) fun n v => calm_trk _ (calm_refl v)
  · exact calm_trk _ (calm_refl u)

/-- After a change of mode the line is in the new one, and the incident manager is as it was. -/
theorem modeChange_spec (new : Mode) (cause : ModeCause) (incident : Option Nat) (u : State) :
    (modeChange new cause incident u).lmc.mode = new ∧ (modeChange new cause incident u).inm = u.inm := by
  have k (v : State) : Still v (announceMode (when (isNight u.lmc.mode && !isNight new) readyPatterns
      (trackMode u.lmc.mode new (when (new == .nightHeld) nightHold (regulateMode u.lmc.mode new v.modeNotice))))) := by
    refine still_trans (t := regulateMode u.lmc.mode new v.modeNotice) (still_of_calm (by simp)) ?_
    generalize regulateMode u.lmc.mode new v.modeNotice = w
    refine still_trans (t := when (new == .nightHeld) nightHold w) ?_ ?_
    · unfold when
      split
      · exact nightHold_still w
      · exact still_refl w
    generalize when (new == .nightHeld) nightHold w = w
    refine still_trans (still_of_calm (trackMode_calm u.lmc.mode new w)) (still_of_calm ?_)
    have c (v : State) : Calm v (readyPatterns v) := calm_wlc _ (calm_refl v)
    simp [when_calm, calm_trans (calm_refl _) (c _)]
  unfold modeChange
  dsimp only
  exact ⟨(k _).mode, (k _).inm⟩

/-! ### The incident table -/

/-- The incidents' ids in the order of the table, and the drop record. -/
structure SameIds (s t : State) : Prop where
  ids : t.inm.incidents.map (·.id) = s.inm.incidents.map (·.id)
  drops : t.inm.drops = s.inm.drops
  lastDrop : t.inm.lastDrop = s.inm.lastDrop

theorem sameIds_refl (s : State) : SameIds s s := ⟨rfl, rfl, rfl⟩

theorem sameIds_trans {s t u : State} (h : SameIds s t) (k : SameIds t u) : SameIds s u :=
  ⟨k.1.trans h.1, k.2.trans h.2, k.3.trans h.3⟩

theorem sameIds_of_inm (h : t.inm = s.inm) : SameIds s t := by
  refine ⟨?_, ?_, ?_⟩ <;> rw [h]

/-- A change of an incident's record that keeps its id. -/
theorem modIncident_sameIds (id : Nat) (f : Incident → Incident) (u : State) (k : ∀ i, (f i).id = i.id) :
    SameIds u (u.modIncident id f) := by
  refine ⟨?_, rfl, rfl⟩
  simp only [State.modIncident, Machine.modify, List.map_map]
  refine List.map_congr_left fun i _ => ?_
  simp only [Function.comp_apply]
  split <;> simp [k]

theorem addLink_id (l : IncLink) (i : Incident) : (addLink l i).id = i.id := by
  unfold addLink
  (repeat' split) <;> rfl

theorem linked_sameIds (id : Nat) (l : IncLink) (act : State → State) (u : State) (k : (act u).inm = u.inm) :
    SameIds u (linked id l act u) :=
  sameIds_trans (sameIds_of_inm k) (modIncident_sameIds id _ _ (addLink_id l))

theorem escalate_inm (id : Nat) (u : State) : (escalate id u).inm = u.inm := by
  unfold escalate
  (repeat' split) <;> first | exact (modeChange_spec _ _ _ _).2 | rfl

theorem forEach_sameIds {α : Type} (l : List α) (f : α → State → State) (u : State) (k : ∀ x v, SameIds v (f x v)) :
    SameIds u (forEach l f u) := by
  unfold forEach
  induction l generalizing u with
  | nil => exact sameIds_refl u
  | cons x l ih => exact sameIds_trans (k x u) (ih _)

theorem withdrawOf_calm (id e : Nat) (u : State) : Calm u (withdrawOf id e u) := by
  unfold withdrawOf
  (repeat' split) <;> simp

theorem when_sameIds (b : Bool) (f : State → State) (u : State) (k : SameIds u (f u)) : SameIds u (when b f u) := by
  unfold when
  split
  · exact k
  · exact sameIds_refl u

theorem announceIncident_sameIds (i : Incident) (e : Response) (template : Nat) (r : Reach) (u : State) :
    SameIds u (announceIncident i e template r u) := by
  unfold announceIncident
  dsimp only
  have h (l : List Nat) : SameIds u (forEach l (fun n v => withdrawOf i.id n v) u) :=
    sameIds_of_inm (calm_forEach _ _ (calm_refl u) fun n v => withdrawOf_calm i.id n v).inm
  have m (l : List Nat) (f : Incident → Incident) (k : ∀ j, (f j).id = j.id) :=
    sameIds_trans (h l) (modIncident_sameIds i.id f _ k)
  split <;> rename_i k
  · have c := sameIds_of_inm (internalPost_calm' k (calm_refl _)).inm
    exact sameIds_trans (m _ _ (by intro; rfl)) (sameIds_trans c (modIncident_sameIds _ _ _ (addLink_id _)))
  · have c := sameIds_of_inm (internalPost_calm' k (calm_refl _)).inm
    exact sameIds_trans (m _ _ (by intro; rfl)) c

/-- A response leaves the incidents of the table, and the drop record. -/
theorem applyResponse_sameIds (id : Nat) (u : State) : SameIds u (applyResponse id u) := by
  unfold applyResponse
  split
  · exact sameIds_refl u
  · rename_i i _
    dsimp only
    refine sameIds_trans ?_ (when_sameIds _ _ _ (linked_sameIds _ _ _ _ (escalate_inm _ _)))
    have a : ∀ v, SameIds v (match (responseEntry u.inm.responses i.cls i.severity).template with
        | some n => announceIncident i (responseEntry u.inm.responses i.cls i.severity) n (resolve u.desc i.location) v
        | none => v) := by
      intro v
      split
      · exact announceIncident_sameIds _ _ _ _ v
      · exact sameIds_refl v
    refine sameIds_trans ?_ (a _)
    refine sameIds_trans ?_ (when_sameIds _ _ _ (forEach_sameIds _ _ _ fun x v =>
      linked_sameIds _ _ _ _ (claimDeenergise_still id x v).inm))
    refine sameIds_trans ?_ (when_sameIds _ _ _ (forEach_sameIds _ _ _ fun n v =>
      linked_sameIds _ _ _ _ (addTrainHold_calm n (.incident id) (calm_refl v)).inm))
    exact when_sameIds _ _ _ (forEach_sameIds _ _ _ fun p v =>
      linked_sameIds _ _ _ _ (addPlatformHold_calm p (.incident id) (calm_refl v)).inm)

theorem incidentNotice_inm (id : Nat) (u : State) : (u.incidentNotice id).inm = u.inm := by
  unfold State.incidentNotice State.notice
  (repeat' split) <;> rfl

end Sys2Proof.Laws
end

