-- ==== Sys2Proof/Laws/State.lean ====
section
/-!
SUPPORT. What each update of the state changes and what it leaves, field by field, so that no proof unfolds an update.
-/

namespace Sys2Proof.Laws

open Sys2Proof.Machine

/-! #### `State.modTrain` -/

@[simp] theorem modTrain_trains (s : State) (n : Nat) (f : Train → Train) :
    (s.modTrain n f).trk.trains = Machine.modify (·.number == n) f s.trk.trains := rfl
@[simp] theorem modTrain_trk_segs (s : State) (n : Nat) (f : Train → Train) : (s.modTrain n f).trk.segs = s.trk.segs := rfl
@[simp] theorem modTrain_trk_stallLimit (s : State) (n : Nat) (f : Train → Train) :
    (s.modTrain n f).trk.stallLimit = s.trk.stallLimit := rfl
@[simp] theorem modTrain_lmc (s : State) (n : Nat) (f : Train → Train) : (s.modTrain n f).lmc = s.lmc := rfl
@[simp] theorem modTrain_lst (s : State) (n : Nat) (f : Train → Train) : (s.modTrain n f).lst = s.lst := rfl
@[simp] theorem modTrain_clp (s : State) (n : Nat) (f : Train → Train) : (s.modTrain n f).clp = s.clp := rfl
@[simp] theorem modTrain_wlc (s : State) (n : Nat) (f : Train → Train) : (s.modTrain n f).wlc = s.wlc := rfl
@[simp] theorem modTrain_srg (s : State) (n : Nat) (f : Train → Train) : (s.modTrain n f).srg = s.srg := rfl
@[simp] theorem modTrain_tpc (s : State) (n : Nat) (f : Train → Train) : (s.modTrain n f).tpc = s.tpc := rfl
@[simp] theorem modTrain_inm (s : State) (n : Nat) (f : Train → Train) : (s.modTrain n f).inm = s.inm := rfl
@[simp] theorem modTrain_ans (s : State) (n : Nat) (f : Train → Train) : (s.modTrain n f).ans = s.ans := rfl
@[simp] theorem modTrain_pending (s : State) (n : Nat) (f : Train → Train) : (s.modTrain n f).pending = s.pending := rfl

/-! #### `State.modSec` -/

@[simp] theorem modSec_sections (s : State) (n : Nat) (f : SecRec → SecRec) :
    (s.modSec n f).tpc.sections = Machine.modify (·.index == n) f s.tpc.sections := rfl
@[simp] theorem modSec_tpc_breakers (s : State) (n : Nat) (f : SecRec → SecRec) :
    (s.modSec n f).tpc.breakers = s.tpc.breakers := rfl
@[simp] theorem modSec_tpc_queue (s : State) (n : Nat) (f : SecRec → SecRec) : (s.modSec n f).tpc.queue = s.tpc.queue := rfl
@[simp] theorem modSec_tpc_nextCode (s : State) (n : Nat) (f : SecRec → SecRec) :
    (s.modSec n f).tpc.nextCode = s.tpc.nextCode := rfl
@[simp] theorem modSec_tpc_grants (s : State) (n : Nat) (f : SecRec → SecRec) : (s.modSec n f).tpc.grants = s.tpc.grants := rfl
@[simp] theorem modSec_tpc_isolations (s : State) (n : Nat) (f : SecRec → SecRec) :
    (s.modSec n f).tpc.isolations = s.tpc.isolations := rfl
@[simp] theorem modSec_tpc_permits (s : State) (n : Nat) (f : SecRec → SecRec) : (s.modSec n f).tpc.permits = s.tpc.permits := rfl
@[simp] theorem modSec_tpc_permitLast (s : State) (n : Nat) (f : SecRec → SecRec) :
    (s.modSec n f).tpc.permitLast = s.tpc.permitLast := rfl
@[simp] theorem modSec_tpc_reports (s : State) (n : Nat) (f : SecRec → SecRec) : (s.modSec n f).tpc.reports = s.tpc.reports := rfl
@[simp] theorem modSec_lmc (s : State) (n : Nat) (f : SecRec → SecRec) : (s.modSec n f).lmc = s.lmc := rfl
@[simp] theorem modSec_lst (s : State) (n : Nat) (f : SecRec → SecRec) : (s.modSec n f).lst = s.lst := rfl
@[simp] theorem modSec_clp (s : State) (n : Nat) (f : SecRec → SecRec) : (s.modSec n f).clp = s.clp := rfl
@[simp] theorem modSec_wlc (s : State) (n : Nat) (f : SecRec → SecRec) : (s.modSec n f).wlc = s.wlc := rfl
@[simp] theorem modSec_trk (s : State) (n : Nat) (f : SecRec → SecRec) : (s.modSec n f).trk = s.trk := rfl
@[simp] theorem modSec_srg (s : State) (n : Nat) (f : SecRec → SecRec) : (s.modSec n f).srg = s.srg := rfl
@[simp] theorem modSec_inm (s : State) (n : Nat) (f : SecRec → SecRec) : (s.modSec n f).inm = s.inm := rfl
@[simp] theorem modSec_ans (s : State) (n : Nat) (f : SecRec → SecRec) : (s.modSec n f).ans = s.ans := rfl
@[simp] theorem modSec_pending (s : State) (n : Nat) (f : SecRec → SecRec) : (s.modSec n f).pending = s.pending := rfl

/-! #### `State.modBrk` -/

@[simp] theorem modBrk_breakers (s : State) (n : Nat) (f : BrkRec → BrkRec) :
    (s.modBrk n f).tpc.breakers = Machine.modify (·.index == n) f s.tpc.breakers := rfl
@[simp] theorem modBrk_tpc_sections (s : State) (n : Nat) (f : BrkRec → BrkRec) :
    (s.modBrk n f).tpc.sections = s.tpc.sections := rfl
@[simp] theorem modBrk_tpc_queue (s : State) (n : Nat) (f : BrkRec → BrkRec) : (s.modBrk n f).tpc.queue = s.tpc.queue := rfl
@[simp] theorem modBrk_tpc_nextCode (s : State) (n : Nat) (f : BrkRec → BrkRec) :
    (s.modBrk n f).tpc.nextCode = s.tpc.nextCode := rfl
@[simp] theorem modBrk_tpc_grants (s : State) (n : Nat) (f : BrkRec → BrkRec) : (s.modBrk n f).tpc.grants = s.tpc.grants := rfl
@[simp] theorem modBrk_tpc_isolations (s : State) (n : Nat) (f : BrkRec → BrkRec) :
    (s.modBrk n f).tpc.isolations = s.tpc.isolations := rfl
@[simp] theorem modBrk_tpc_permits (s : State) (n : Nat) (f : BrkRec → BrkRec) : (s.modBrk n f).tpc.permits = s.tpc.permits := rfl
@[simp] theorem modBrk_tpc_permitLast (s : State) (n : Nat) (f : BrkRec → BrkRec) :
    (s.modBrk n f).tpc.permitLast = s.tpc.permitLast := rfl
@[simp] theorem modBrk_tpc_reports (s : State) (n : Nat) (f : BrkRec → BrkRec) : (s.modBrk n f).tpc.reports = s.tpc.reports := rfl
@[simp] theorem modBrk_lmc (s : State) (n : Nat) (f : BrkRec → BrkRec) : (s.modBrk n f).lmc = s.lmc := rfl
@[simp] theorem modBrk_lst (s : State) (n : Nat) (f : BrkRec → BrkRec) : (s.modBrk n f).lst = s.lst := rfl
@[simp] theorem modBrk_clp (s : State) (n : Nat) (f : BrkRec → BrkRec) : (s.modBrk n f).clp = s.clp := rfl
@[simp] theorem modBrk_wlc (s : State) (n : Nat) (f : BrkRec → BrkRec) : (s.modBrk n f).wlc = s.wlc := rfl
@[simp] theorem modBrk_trk (s : State) (n : Nat) (f : BrkRec → BrkRec) : (s.modBrk n f).trk = s.trk := rfl
@[simp] theorem modBrk_srg (s : State) (n : Nat) (f : BrkRec → BrkRec) : (s.modBrk n f).srg = s.srg := rfl
@[simp] theorem modBrk_inm (s : State) (n : Nat) (f : BrkRec → BrkRec) : (s.modBrk n f).inm = s.inm := rfl
@[simp] theorem modBrk_ans (s : State) (n : Nat) (f : BrkRec → BrkRec) : (s.modBrk n f).ans = s.ans := rfl
@[simp] theorem modBrk_pending (s : State) (n : Nat) (f : BrkRec → BrkRec) : (s.modBrk n f).pending = s.pending := rfl

/-! #### `State.modUnit` -/

@[simp] theorem modUnit_registry (s : State) (n : Nat) (f : UnitRec → UnitRec) :
    (s.modUnit n f).wlc.registry = Machine.modify (·.address == n) f s.wlc.registry := rfl
@[simp] theorem modUnit_wlc_line (s : State) (n : Nat) (f : UnitRec → UnitRec) : (s.modUnit n f).wlc.line = s.wlc.line := rfl
@[simp] theorem modUnit_wlc_drivesMark (s : State) (n : Nat) (f : UnitRec → UnitRec) :
    (s.modUnit n f).wlc.drivesMark = s.wlc.drivesMark := rfl
@[simp] theorem modUnit_wlc_outQueue (s : State) (n : Nat) (f : UnitRec → UnitRec) :
    (s.modUnit n f).wlc.outQueue = s.wlc.outQueue := rfl
@[simp] theorem modUnit_wlc_seqCounter (s : State) (n : Nat) (f : UnitRec → UnitRec) :
    (s.modUnit n f).wlc.seqCounter = s.wlc.seqCounter := rfl
@[simp] theorem modUnit_wlc_inBuffer (s : State) (n : Nat) (f : UnitRec → UnitRec) :
    (s.modUnit n f).wlc.inBuffer = s.wlc.inBuffer := rfl
@[simp] theorem modUnit_wlc_patterns (s : State) (n : Nat) (f : UnitRec → UnitRec) :
    (s.modUnit n f).wlc.patterns = s.wlc.patterns := rfl
@[simp] theorem modUnit_wlc_armed (s : State) (n : Nat) (f : UnitRec → UnitRec) : (s.modUnit n f).wlc.armed = s.wlc.armed := rfl
@[simp] theorem modUnit_wlc_revokeAllPosts (s : State) (n : Nat) (f : UnitRec → UnitRec) :
    (s.modUnit n f).wlc.revokeAllPosts = s.wlc.revokeAllPosts := rfl
@[simp] theorem modUnit_lmc (s : State) (n : Nat) (f : UnitRec → UnitRec) : (s.modUnit n f).lmc = s.lmc := rfl
@[simp] theorem modUnit_lst (s : State) (n : Nat) (f : UnitRec → UnitRec) : (s.modUnit n f).lst = s.lst := rfl
@[simp] theorem modUnit_clp (s : State) (n : Nat) (f : UnitRec → UnitRec) : (s.modUnit n f).clp = s.clp := rfl
@[simp] theorem modUnit_trk (s : State) (n : Nat) (f : UnitRec → UnitRec) : (s.modUnit n f).trk = s.trk := rfl
@[simp] theorem modUnit_srg (s : State) (n : Nat) (f : UnitRec → UnitRec) : (s.modUnit n f).srg = s.srg := rfl
@[simp] theorem modUnit_tpc (s : State) (n : Nat) (f : UnitRec → UnitRec) : (s.modUnit n f).tpc = s.tpc := rfl
@[simp] theorem modUnit_inm (s : State) (n : Nat) (f : UnitRec → UnitRec) : (s.modUnit n f).inm = s.inm := rfl
@[simp] theorem modUnit_ans (s : State) (n : Nat) (f : UnitRec → UnitRec) : (s.modUnit n f).ans = s.ans := rfl
@[simp] theorem modUnit_pending (s : State) (n : Nat) (f : UnitRec → UnitRec) : (s.modUnit n f).pending = s.pending := rfl

/-! #### `State.modPlat` -/

@[simp] theorem modPlat_plats (s : State) (n : Nat) (f : PlatRec → PlatRec) :
    (s.modPlat n f).srg.plats = Machine.modify (·.index == n) f s.srg.plats := rfl
@[simp] theorem modPlat_srg_trips (s : State) (n : Nat) (f : PlatRec → PlatRec) : (s.modPlat n f).srg.trips = s.srg.trips := rfl
@[simp] theorem modPlat_srg_peak (s : State) (n : Nat) (f : PlatRec → PlatRec) : (s.modPlat n f).srg.peak = s.srg.peak := rfl
@[simp] theorem modPlat_srg_offPeak (s : State) (n : Nat) (f : PlatRec → PlatRec) :
    (s.modPlat n f).srg.offPeak = s.srg.offPeak := rfl
@[simp] theorem modPlat_srg_onThreshold (s : State) (n : Nat) (f : PlatRec → PlatRec) :
    (s.modPlat n f).srg.onThreshold = s.srg.onThreshold := rfl
@[simp] theorem modPlat_srg_offThreshold (s : State) (n : Nat) (f : PlatRec → PlatRec) :
    (s.modPlat n f).srg.offThreshold = s.srg.offThreshold := rfl
@[simp] theorem modPlat_srg_learned (s : State) (n : Nat) (f : PlatRec → PlatRec) :
    (s.modPlat n f).srg.learned = s.srg.learned := rfl
@[simp] theorem modPlat_srg_authorityLast (s : State) (n : Nat) (f : PlatRec → PlatRec) :
    (s.modPlat n f).srg.authorityLast = s.srg.authorityLast := rfl
@[simp] theorem modPlat_lmc (s : State) (n : Nat) (f : PlatRec → PlatRec) : (s.modPlat n f).lmc = s.lmc := rfl
@[simp] theorem modPlat_lst (s : State) (n : Nat) (f : PlatRec → PlatRec) : (s.modPlat n f).lst = s.lst := rfl
@[simp] theorem modPlat_clp (s : State) (n : Nat) (f : PlatRec → PlatRec) : (s.modPlat n f).clp = s.clp := rfl
@[simp] theorem modPlat_wlc (s : State) (n : Nat) (f : PlatRec → PlatRec) : (s.modPlat n f).wlc = s.wlc := rfl
@[simp] theorem modPlat_trk (s : State) (n : Nat) (f : PlatRec → PlatRec) : (s.modPlat n f).trk = s.trk := rfl
@[simp] theorem modPlat_tpc (s : State) (n : Nat) (f : PlatRec → PlatRec) : (s.modPlat n f).tpc = s.tpc := rfl
@[simp] theorem modPlat_inm (s : State) (n : Nat) (f : PlatRec → PlatRec) : (s.modPlat n f).inm = s.inm := rfl
@[simp] theorem modPlat_ans (s : State) (n : Nat) (f : PlatRec → PlatRec) : (s.modPlat n f).ans = s.ans := rfl
@[simp] theorem modPlat_pending (s : State) (n : Nat) (f : PlatRec → PlatRec) : (s.modPlat n f).pending = s.pending := rfl

/-! #### `State.modTrip` -/

@[simp] theorem modTrip_trips (s : State) (n : Nat) (f : TripState → TripState) :
    (s.modTrip n f).srg.trips = Machine.modify (·.number == n) f s.srg.trips := rfl
@[simp] theorem modTrip_srg_plats (s : State) (n : Nat) (f : TripState → TripState) : (s.modTrip n f).srg.plats = s.srg.plats := rfl
@[simp] theorem modTrip_srg_peak (s : State) (n : Nat) (f : TripState → TripState) : (s.modTrip n f).srg.peak = s.srg.peak := rfl
@[simp] theorem modTrip_srg_offPeak (s : State) (n : Nat) (f : TripState → TripState) :
    (s.modTrip n f).srg.offPeak = s.srg.offPeak := rfl
@[simp] theorem modTrip_srg_onThreshold (s : State) (n : Nat) (f : TripState → TripState) :
    (s.modTrip n f).srg.onThreshold = s.srg.onThreshold := rfl
@[simp] theorem modTrip_srg_offThreshold (s : State) (n : Nat) (f : TripState → TripState) :
    (s.modTrip n f).srg.offThreshold = s.srg.offThreshold := rfl
@[simp] theorem modTrip_srg_learned (s : State) (n : Nat) (f : TripState → TripState) :
    (s.modTrip n f).srg.learned = s.srg.learned := rfl
@[simp] theorem modTrip_srg_authorityLast (s : State) (n : Nat) (f : TripState → TripState) :
    (s.modTrip n f).srg.authorityLast = s.srg.authorityLast := rfl
@[simp] theorem modTrip_lmc (s : State) (n : Nat) (f : TripState → TripState) : (s.modTrip n f).lmc = s.lmc := rfl
@[simp] theorem modTrip_lst (s : State) (n : Nat) (f : TripState → TripState) : (s.modTrip n f).lst = s.lst := rfl
@[simp] theorem modTrip_clp (s : State) (n : Nat) (f : TripState → TripState) : (s.modTrip n f).clp = s.clp := rfl
@[simp] theorem modTrip_wlc (s : State) (n : Nat) (f : TripState → TripState) : (s.modTrip n f).wlc = s.wlc := rfl
@[simp] theorem modTrip_trk (s : State) (n : Nat) (f : TripState → TripState) : (s.modTrip n f).trk = s.trk := rfl
@[simp] theorem modTrip_tpc (s : State) (n : Nat) (f : TripState → TripState) : (s.modTrip n f).tpc = s.tpc := rfl
@[simp] theorem modTrip_inm (s : State) (n : Nat) (f : TripState → TripState) : (s.modTrip n f).inm = s.inm := rfl
@[simp] theorem modTrip_ans (s : State) (n : Nat) (f : TripState → TripState) : (s.modTrip n f).ans = s.ans := rfl
@[simp] theorem modTrip_pending (s : State) (n : Nat) (f : TripState → TripState) : (s.modTrip n f).pending = s.pending := rfl

/-! #### `State.modSlot` -/

@[simp] theorem modSlot_slots (s : State) (n : Nat) (f : Slot → Slot) : (s.modSlot n f).lst.slots = s.lst.slots.modify n f := rfl
@[simp] theorem modSlot_lst_lineRegion (s : State) (n : Nat) (f : Slot → Slot) :
    (s.modSlot n f).lst.lineRegion = s.lst.lineRegion := rfl
@[simp] theorem modSlot_lst_buffer (s : State) (n : Nat) (f : Slot → Slot) : (s.modSlot n f).lst.buffer = s.lst.buffer := rfl
@[simp] theorem modSlot_lst_templates (s : State) (n : Nat) (f : Slot → Slot) :
    (s.modSlot n f).lst.templates = s.lst.templates := rfl
@[simp] theorem modSlot_lst_responses (s : State) (n : Nat) (f : Slot → Slot) :
    (s.modSlot n f).lst.responses = s.lst.responses := rfl
@[simp] theorem modSlot_lst_permits (s : State) (n : Nat) (f : Slot → Slot) : (s.modSlot n f).lst.permits = s.lst.permits := rfl
@[simp] theorem modSlot_lst_storedActive (s : State) (n : Nat) (f : Slot → Slot) :
    (s.modSlot n f).lst.storedActive = s.lst.storedActive := rfl
@[simp] theorem modSlot_lst_storedScheduled (s : State) (n : Nat) (f : Slot → Slot) :
    (s.modSlot n f).lst.storedScheduled = s.lst.storedScheduled := rfl
@[simp] theorem modSlot_lst_indicesDamaged (s : State) (n : Nat) (f : Slot → Slot) :
    (s.modSlot n f).lst.indicesDamaged = s.lst.indicesDamaged := rfl
@[simp] theorem modSlot_lst_active (s : State) (n : Nat) (f : Slot → Slot) : (s.modSlot n f).lst.active = s.lst.active := rfl
@[simp] theorem modSlot_lst_scheduled (s : State) (n : Nat) (f : Slot → Slot) :
    (s.modSlot n f).lst.scheduled = s.lst.scheduled := rfl
@[simp] theorem modSlot_lst_indexDue (s : State) (n : Nat) (f : Slot → Slot) : (s.modSlot n f).lst.indexDue = s.lst.indexDue := rfl
@[simp] theorem modSlot_lst_permitList (s : State) (n : Nat) (f : Slot → Slot) :
    (s.modSlot n f).lst.permitList = s.lst.permitList := rfl
@[simp] theorem modSlot_lst_otherList (s : State) (n : Nat) (f : Slot → Slot) :
    (s.modSlot n f).lst.otherList = s.lst.otherList := rfl
@[simp] theorem modSlot_lst_inFlight (s : State) (n : Nat) (f : Slot → Slot) : (s.modSlot n f).lst.inFlight = s.lst.inFlight := rfl
@[simp] theorem modSlot_lmc (s : State) (n : Nat) (f : Slot → Slot) : (s.modSlot n f).lmc = s.lmc := rfl
@[simp] theorem modSlot_clp (s : State) (n : Nat) (f : Slot → Slot) : (s.modSlot n f).clp = s.clp := rfl
@[simp] theorem modSlot_wlc (s : State) (n : Nat) (f : Slot → Slot) : (s.modSlot n f).wlc = s.wlc := rfl
@[simp] theorem modSlot_trk (s : State) (n : Nat) (f : Slot → Slot) : (s.modSlot n f).trk = s.trk := rfl
@[simp] theorem modSlot_srg (s : State) (n : Nat) (f : Slot → Slot) : (s.modSlot n f).srg = s.srg := rfl
@[simp] theorem modSlot_tpc (s : State) (n : Nat) (f : Slot → Slot) : (s.modSlot n f).tpc = s.tpc := rfl
@[simp] theorem modSlot_inm (s : State) (n : Nat) (f : Slot → Slot) : (s.modSlot n f).inm = s.inm := rfl
@[simp] theorem modSlot_ans (s : State) (n : Nat) (f : Slot → Slot) : (s.modSlot n f).ans = s.ans := rfl
@[simp] theorem modSlot_pending (s : State) (n : Nat) (f : Slot → Slot) : (s.modSlot n f).pending = s.pending := rfl

/-! #### `State.modPermit` -/

@[simp] theorem modPermit_permits (s : State) (n : Nat) (f : Permit → Permit) :
    (s.modPermit n f).tpc.permits = Machine.modify (·.id == n) f s.tpc.permits := rfl
@[simp] theorem modPermit_tpc_sections (s : State) (n : Nat) (f : Permit → Permit) :
    (s.modPermit n f).tpc.sections = s.tpc.sections := rfl
@[simp] theorem modPermit_tpc_breakers (s : State) (n : Nat) (f : Permit → Permit) :
    (s.modPermit n f).tpc.breakers = s.tpc.breakers := rfl
@[simp] theorem modPermit_tpc_queue (s : State) (n : Nat) (f : Permit → Permit) : (s.modPermit n f).tpc.queue = s.tpc.queue := rfl
@[simp] theorem modPermit_tpc_nextCode (s : State) (n : Nat) (f : Permit → Permit) :
    (s.modPermit n f).tpc.nextCode = s.tpc.nextCode := rfl
@[simp] theorem modPermit_tpc_grants (s : State) (n : Nat) (f : Permit → Permit) :
    (s.modPermit n f).tpc.grants = s.tpc.grants := rfl
@[simp] theorem modPermit_tpc_isolations (s : State) (n : Nat) (f : Permit → Permit) :
    (s.modPermit n f).tpc.isolations = s.tpc.isolations := rfl
@[simp] theorem modPermit_tpc_permitLast (s : State) (n : Nat) (f : Permit → Permit) :
    (s.modPermit n f).tpc.permitLast = s.tpc.permitLast := rfl
@[simp] theorem modPermit_tpc_reports (s : State) (n : Nat) (f : Permit → Permit) :
    (s.modPermit n f).tpc.reports = s.tpc.reports := rfl
@[simp] theorem modPermit_lmc (s : State) (n : Nat) (f : Permit → Permit) : (s.modPermit n f).lmc = s.lmc := rfl
@[simp] theorem modPermit_lst (s : State) (n : Nat) (f : Permit → Permit) : (s.modPermit n f).lst = s.lst := rfl
@[simp] theorem modPermit_clp (s : State) (n : Nat) (f : Permit → Permit) : (s.modPermit n f).clp = s.clp := rfl
@[simp] theorem modPermit_wlc (s : State) (n : Nat) (f : Permit → Permit) : (s.modPermit n f).wlc = s.wlc := rfl
@[simp] theorem modPermit_trk (s : State) (n : Nat) (f : Permit → Permit) : (s.modPermit n f).trk = s.trk := rfl
@[simp] theorem modPermit_srg (s : State) (n : Nat) (f : Permit → Permit) : (s.modPermit n f).srg = s.srg := rfl
@[simp] theorem modPermit_inm (s : State) (n : Nat) (f : Permit → Permit) : (s.modPermit n f).inm = s.inm := rfl
@[simp] theorem modPermit_ans (s : State) (n : Nat) (f : Permit → Permit) : (s.modPermit n f).ans = s.ans := rfl
@[simp] theorem modPermit_pending (s : State) (n : Nat) (f : Permit → Permit) : (s.modPermit n f).pending = s.pending := rfl

/-! #### `State.modIncident` -/

@[simp] theorem modIncident_incidents (s : State) (n : Nat) (f : Incident → Incident) :
    (s.modIncident n f).inm.incidents = Machine.modify (·.id == n) f s.inm.incidents := rfl
@[simp] theorem modIncident_inm_lastId (s : State) (n : Nat) (f : Incident → Incident) :
    (s.modIncident n f).inm.lastId = s.inm.lastId := rfl
@[simp] theorem modIncident_inm_drops (s : State) (n : Nat) (f : Incident → Incident) :
    (s.modIncident n f).inm.drops = s.inm.drops := rfl
@[simp] theorem modIncident_inm_lastDrop (s : State) (n : Nat) (f : Incident → Incident) :
    (s.modIncident n f).inm.lastDrop = s.inm.lastDrop := rfl
@[simp] theorem modIncident_inm_periods (s : State) (n : Nat) (f : Incident → Incident) :
    (s.modIncident n f).inm.periods = s.inm.periods := rfl
@[simp] theorem modIncident_inm_responses (s : State) (n : Nat) (f : Incident → Incident) :
    (s.modIncident n f).inm.responses = s.inm.responses := rfl
@[simp] theorem modIncident_lmc (s : State) (n : Nat) (f : Incident → Incident) : (s.modIncident n f).lmc = s.lmc := rfl
@[simp] theorem modIncident_lst (s : State) (n : Nat) (f : Incident → Incident) : (s.modIncident n f).lst = s.lst := rfl
@[simp] theorem modIncident_clp (s : State) (n : Nat) (f : Incident → Incident) : (s.modIncident n f).clp = s.clp := rfl
@[simp] theorem modIncident_wlc (s : State) (n : Nat) (f : Incident → Incident) : (s.modIncident n f).wlc = s.wlc := rfl
@[simp] theorem modIncident_trk (s : State) (n : Nat) (f : Incident → Incident) : (s.modIncident n f).trk = s.trk := rfl
@[simp] theorem modIncident_srg (s : State) (n : Nat) (f : Incident → Incident) : (s.modIncident n f).srg = s.srg := rfl
@[simp] theorem modIncident_tpc (s : State) (n : Nat) (f : Incident → Incident) : (s.modIncident n f).tpc = s.tpc := rfl
@[simp] theorem modIncident_ans (s : State) (n : Nat) (f : Incident → Incident) : (s.modIncident n f).ans = s.ans := rfl
@[simp] theorem modIncident_pending (s : State) (n : Nat) (f : Incident → Incident) : (s.modIncident n f).pending = s.pending := rfl

/-! #### `State.modEntry` -/

@[simp] theorem modEntry_entries (s : State) (n : Nat) (f : Entry → Entry) :
    (s.modEntry n f).ans.entries = Machine.modify (·.id == n) f s.ans.entries := rfl
@[simp] theorem modEntry_ans_lastId (s : State) (n : Nat) (f : Entry → Entry) : (s.modEntry n f).ans.lastId = s.ans.lastId := rfl
@[simp] theorem modEntry_ans_zones (s : State) (n : Nat) (f : Entry → Entry) : (s.modEntry n f).ans.zones = s.ans.zones := rfl
@[simp] theorem modEntry_ans_displays (s : State) (n : Nat) (f : Entry → Entry) :
    (s.modEntry n f).ans.displays = s.ans.displays := rfl
@[simp] theorem modEntry_ans_templates (s : State) (n : Nat) (f : Entry → Entry) :
    (s.modEntry n f).ans.templates = s.ans.templates := rfl
@[simp] theorem modEntry_lmc (s : State) (n : Nat) (f : Entry → Entry) : (s.modEntry n f).lmc = s.lmc := rfl
@[simp] theorem modEntry_lst (s : State) (n : Nat) (f : Entry → Entry) : (s.modEntry n f).lst = s.lst := rfl
@[simp] theorem modEntry_clp (s : State) (n : Nat) (f : Entry → Entry) : (s.modEntry n f).clp = s.clp := rfl
@[simp] theorem modEntry_wlc (s : State) (n : Nat) (f : Entry → Entry) : (s.modEntry n f).wlc = s.wlc := rfl
@[simp] theorem modEntry_trk (s : State) (n : Nat) (f : Entry → Entry) : (s.modEntry n f).trk = s.trk := rfl
@[simp] theorem modEntry_srg (s : State) (n : Nat) (f : Entry → Entry) : (s.modEntry n f).srg = s.srg := rfl
@[simp] theorem modEntry_tpc (s : State) (n : Nat) (f : Entry → Entry) : (s.modEntry n f).tpc = s.tpc := rfl
@[simp] theorem modEntry_inm (s : State) (n : Nat) (f : Entry → Entry) : (s.modEntry n f).inm = s.inm := rfl
@[simp] theorem modEntry_pending (s : State) (n : Nat) (f : Entry → Entry) : (s.modEntry n f).pending = s.pending := rfl

/-! #### `State.modZone` -/

@[simp] theorem modZone_zones (s : State) (n : Nat) (f : Zone → Zone) :
    (s.modZone n f).ans.zones = Machine.modify (·.station == n) f s.ans.zones := rfl
@[simp] theorem modZone_ans_entries (s : State) (n : Nat) (f : Zone → Zone) : (s.modZone n f).ans.entries = s.ans.entries := rfl
@[simp] theorem modZone_ans_lastId (s : State) (n : Nat) (f : Zone → Zone) : (s.modZone n f).ans.lastId = s.ans.lastId := rfl
@[simp] theorem modZone_ans_displays (s : State) (n : Nat) (f : Zone → Zone) : (s.modZone n f).ans.displays = s.ans.displays := rfl
@[simp] theorem modZone_ans_templates (s : State) (n : Nat) (f : Zone → Zone) :
    (s.modZone n f).ans.templates = s.ans.templates := rfl
@[simp] theorem modZone_lmc (s : State) (n : Nat) (f : Zone → Zone) : (s.modZone n f).lmc = s.lmc := rfl
@[simp] theorem modZone_lst (s : State) (n : Nat) (f : Zone → Zone) : (s.modZone n f).lst = s.lst := rfl
@[simp] theorem modZone_clp (s : State) (n : Nat) (f : Zone → Zone) : (s.modZone n f).clp = s.clp := rfl
@[simp] theorem modZone_wlc (s : State) (n : Nat) (f : Zone → Zone) : (s.modZone n f).wlc = s.wlc := rfl
@[simp] theorem modZone_trk (s : State) (n : Nat) (f : Zone → Zone) : (s.modZone n f).trk = s.trk := rfl
@[simp] theorem modZone_srg (s : State) (n : Nat) (f : Zone → Zone) : (s.modZone n f).srg = s.srg := rfl
@[simp] theorem modZone_tpc (s : State) (n : Nat) (f : Zone → Zone) : (s.modZone n f).tpc = s.tpc := rfl
@[simp] theorem modZone_inm (s : State) (n : Nat) (f : Zone → Zone) : (s.modZone n f).inm = s.inm := rfl
@[simp] theorem modZone_pending (s : State) (n : Nat) (f : Zone → Zone) : (s.modZone n f).pending = s.pending := rfl

/-! #### `State.modDisplay` -/

@[simp] theorem modDisplay_displays (s : State) (n : Nat) (f : Display → Display) :
    (s.modDisplay n f).ans.displays = Machine.modify (·.platform == n) f s.ans.displays := rfl
@[simp] theorem modDisplay_ans_entries (s : State) (n : Nat) (f : Display → Display) :
    (s.modDisplay n f).ans.entries = s.ans.entries := rfl
@[simp] theorem modDisplay_ans_lastId (s : State) (n : Nat) (f : Display → Display) :
    (s.modDisplay n f).ans.lastId = s.ans.lastId := rfl
@[simp] theorem modDisplay_ans_zones (s : State) (n : Nat) (f : Display → Display) :
    (s.modDisplay n f).ans.zones = s.ans.zones := rfl
@[simp] theorem modDisplay_ans_templates (s : State) (n : Nat) (f : Display → Display) :
    (s.modDisplay n f).ans.templates = s.ans.templates := rfl
@[simp] theorem modDisplay_lmc (s : State) (n : Nat) (f : Display → Display) : (s.modDisplay n f).lmc = s.lmc := rfl
@[simp] theorem modDisplay_lst (s : State) (n : Nat) (f : Display → Display) : (s.modDisplay n f).lst = s.lst := rfl
@[simp] theorem modDisplay_clp (s : State) (n : Nat) (f : Display → Display) : (s.modDisplay n f).clp = s.clp := rfl
@[simp] theorem modDisplay_wlc (s : State) (n : Nat) (f : Display → Display) : (s.modDisplay n f).wlc = s.wlc := rfl
@[simp] theorem modDisplay_trk (s : State) (n : Nat) (f : Display → Display) : (s.modDisplay n f).trk = s.trk := rfl
@[simp] theorem modDisplay_srg (s : State) (n : Nat) (f : Display → Display) : (s.modDisplay n f).srg = s.srg := rfl
@[simp] theorem modDisplay_tpc (s : State) (n : Nat) (f : Display → Display) : (s.modDisplay n f).tpc = s.tpc := rfl
@[simp] theorem modDisplay_inm (s : State) (n : Nat) (f : Display → Display) : (s.modDisplay n f).inm = s.inm := rfl
@[simp] theorem modDisplay_pending (s : State) (n : Nat) (f : Display → Display) : (s.modDisplay n f).pending = s.pending := rfl

/-! #### `State.modIsolation` -/

@[simp] theorem modIsolation_isolations (s : State) (n : Nat) (f : Isolation → Isolation) :
    (s.modIsolation n f).tpc.isolations = Machine.modify (·.sec == n) f s.tpc.isolations := rfl
@[simp] theorem modIsolation_tpc_sections (s : State) (n : Nat) (f : Isolation → Isolation) :
    (s.modIsolation n f).tpc.sections = s.tpc.sections := rfl
@[simp] theorem modIsolation_tpc_breakers (s : State) (n : Nat) (f : Isolation → Isolation) :
    (s.modIsolation n f).tpc.breakers = s.tpc.breakers := rfl
@[simp] theorem modIsolation_tpc_queue (s : State) (n : Nat) (f : Isolation → Isolation) :
    (s.modIsolation n f).tpc.queue = s.tpc.queue := rfl
@[simp] theorem modIsolation_tpc_nextCode (s : State) (n : Nat) (f : Isolation → Isolation) :
    (s.modIsolation n f).tpc.nextCode = s.tpc.nextCode := rfl
@[simp] theorem modIsolation_tpc_grants (s : State) (n : Nat) (f : Isolation → Isolation) :
    (s.modIsolation n f).tpc.grants = s.tpc.grants := rfl
@[simp] theorem modIsolation_tpc_permits (s : State) (n : Nat) (f : Isolation → Isolation) :
    (s.modIsolation n f).tpc.permits = s.tpc.permits := rfl
@[simp] theorem modIsolation_tpc_permitLast (s : State) (n : Nat) (f : Isolation → Isolation) :
    (s.modIsolation n f).tpc.permitLast = s.tpc.permitLast := rfl
@[simp] theorem modIsolation_tpc_reports (s : State) (n : Nat) (f : Isolation → Isolation) :
    (s.modIsolation n f).tpc.reports = s.tpc.reports := rfl
@[simp] theorem modIsolation_lmc (s : State) (n : Nat) (f : Isolation → Isolation) : (s.modIsolation n f).lmc = s.lmc := rfl
@[simp] theorem modIsolation_lst (s : State) (n : Nat) (f : Isolation → Isolation) : (s.modIsolation n f).lst = s.lst := rfl
@[simp] theorem modIsolation_clp (s : State) (n : Nat) (f : Isolation → Isolation) : (s.modIsolation n f).clp = s.clp := rfl
@[simp] theorem modIsolation_wlc (s : State) (n : Nat) (f : Isolation → Isolation) : (s.modIsolation n f).wlc = s.wlc := rfl
@[simp] theorem modIsolation_trk (s : State) (n : Nat) (f : Isolation → Isolation) : (s.modIsolation n f).trk = s.trk := rfl
@[simp] theorem modIsolation_srg (s : State) (n : Nat) (f : Isolation → Isolation) : (s.modIsolation n f).srg = s.srg := rfl
@[simp] theorem modIsolation_inm (s : State) (n : Nat) (f : Isolation → Isolation) : (s.modIsolation n f).inm = s.inm := rfl
@[simp] theorem modIsolation_ans (s : State) (n : Nat) (f : Isolation → Isolation) : (s.modIsolation n f).ans = s.ans := rfl
@[simp] theorem modIsolation_pending (s : State) (n : Nat) (f : Isolation → Isolation) :
    (s.modIsolation n f).pending = s.pending := rfl

/-! #### `State.modPattern` -/

@[simp] theorem modPattern_patterns (s : State) (n : Nat) (f : Pattern → Pattern) :
    (s.modPattern n f).wlc.patterns = s.wlc.patterns.modify n f := rfl
@[simp] theorem modPattern_wlc_line (s : State) (n : Nat) (f : Pattern → Pattern) : (s.modPattern n f).wlc.line = s.wlc.line := rfl
@[simp] theorem modPattern_wlc_drivesMark (s : State) (n : Nat) (f : Pattern → Pattern) :
    (s.modPattern n f).wlc.drivesMark = s.wlc.drivesMark := rfl
@[simp] theorem modPattern_wlc_outQueue (s : State) (n : Nat) (f : Pattern → Pattern) :
    (s.modPattern n f).wlc.outQueue = s.wlc.outQueue := rfl
@[simp] theorem modPattern_wlc_seqCounter (s : State) (n : Nat) (f : Pattern → Pattern) :
    (s.modPattern n f).wlc.seqCounter = s.wlc.seqCounter := rfl
@[simp] theorem modPattern_wlc_inBuffer (s : State) (n : Nat) (f : Pattern → Pattern) :
    (s.modPattern n f).wlc.inBuffer = s.wlc.inBuffer := rfl
@[simp] theorem modPattern_wlc_registry (s : State) (n : Nat) (f : Pattern → Pattern) :
    (s.modPattern n f).wlc.registry = s.wlc.registry := rfl
@[simp] theorem modPattern_wlc_armed (s : State) (n : Nat) (f : Pattern → Pattern) :
    (s.modPattern n f).wlc.armed = s.wlc.armed := rfl
@[simp] theorem modPattern_wlc_revokeAllPosts (s : State) (n : Nat) (f : Pattern → Pattern) :
    (s.modPattern n f).wlc.revokeAllPosts = s.wlc.revokeAllPosts := rfl
@[simp] theorem modPattern_lmc (s : State) (n : Nat) (f : Pattern → Pattern) : (s.modPattern n f).lmc = s.lmc := rfl
@[simp] theorem modPattern_lst (s : State) (n : Nat) (f : Pattern → Pattern) : (s.modPattern n f).lst = s.lst := rfl
@[simp] theorem modPattern_clp (s : State) (n : Nat) (f : Pattern → Pattern) : (s.modPattern n f).clp = s.clp := rfl
@[simp] theorem modPattern_trk (s : State) (n : Nat) (f : Pattern → Pattern) : (s.modPattern n f).trk = s.trk := rfl
@[simp] theorem modPattern_srg (s : State) (n : Nat) (f : Pattern → Pattern) : (s.modPattern n f).srg = s.srg := rfl
@[simp] theorem modPattern_tpc (s : State) (n : Nat) (f : Pattern → Pattern) : (s.modPattern n f).tpc = s.tpc := rfl
@[simp] theorem modPattern_inm (s : State) (n : Nat) (f : Pattern → Pattern) : (s.modPattern n f).inm = s.inm := rfl
@[simp] theorem modPattern_ans (s : State) (n : Nat) (f : Pattern → Pattern) : (s.modPattern n f).ans = s.ans := rfl
@[simp] theorem modPattern_pending (s : State) (n : Nat) (f : Pattern → Pattern) : (s.modPattern n f).pending = s.pending := rfl

/-! #### `State.send` -/

@[simp] theorem send_sent (s : State) (l : OutLine) : (s.send l).clp.sent = s.clp.sent ++ [l] := rfl
@[simp] theorem send_clp_inbound (s : State) (l : OutLine) : (s.send l).clp.inbound = s.clp.inbound := rfl
@[simp] theorem send_clp_flags (s : State) (l : OutLine) : (s.send l).clp.flags = s.clp.flags := rfl
@[simp] theorem send_clp_restartDue (s : State) (l : OutLine) : (s.send l).clp.restartDue = s.clp.restartDue := rfl
@[simp] theorem send_lmc (s : State) (l : OutLine) : (s.send l).lmc = s.lmc := rfl
@[simp] theorem send_lst (s : State) (l : OutLine) : (s.send l).lst = s.lst := rfl
@[simp] theorem send_wlc (s : State) (l : OutLine) : (s.send l).wlc = s.wlc := rfl
@[simp] theorem send_trk (s : State) (l : OutLine) : (s.send l).trk = s.trk := rfl
@[simp] theorem send_srg (s : State) (l : OutLine) : (s.send l).srg = s.srg := rfl
@[simp] theorem send_tpc (s : State) (l : OutLine) : (s.send l).tpc = s.tpc := rfl
@[simp] theorem send_inm (s : State) (l : OutLine) : (s.send l).inm = s.inm := rfl
@[simp] theorem send_ans (s : State) (l : OutLine) : (s.send l).ans = s.ans := rfl
@[simp] theorem send_pending (s : State) (l : OutLine) : (s.send l).pending = s.pending := rfl

/-! #### `State.sendAll` -/

@[simp] theorem sendAll_sent (s : State) (l : List OutLine) : (s.sendAll l).clp.sent = s.clp.sent ++ l := rfl
@[simp] theorem sendAll_clp_inbound (s : State) (l : List OutLine) : (s.sendAll l).clp.inbound = s.clp.inbound := rfl
@[simp] theorem sendAll_clp_flags (s : State) (l : List OutLine) : (s.sendAll l).clp.flags = s.clp.flags := rfl
@[simp] theorem sendAll_clp_restartDue (s : State) (l : List OutLine) : (s.sendAll l).clp.restartDue = s.clp.restartDue := rfl
@[simp] theorem sendAll_lmc (s : State) (l : List OutLine) : (s.sendAll l).lmc = s.lmc := rfl
@[simp] theorem sendAll_lst (s : State) (l : List OutLine) : (s.sendAll l).lst = s.lst := rfl
@[simp] theorem sendAll_wlc (s : State) (l : List OutLine) : (s.sendAll l).wlc = s.wlc := rfl
@[simp] theorem sendAll_trk (s : State) (l : List OutLine) : (s.sendAll l).trk = s.trk := rfl
@[simp] theorem sendAll_srg (s : State) (l : List OutLine) : (s.sendAll l).srg = s.srg := rfl
@[simp] theorem sendAll_tpc (s : State) (l : List OutLine) : (s.sendAll l).tpc = s.tpc := rfl
@[simp] theorem sendAll_inm (s : State) (l : List OutLine) : (s.sendAll l).inm = s.inm := rfl
@[simp] theorem sendAll_ans (s : State) (l : List OutLine) : (s.sendAll l).ans = s.ans := rfl
@[simp] theorem sendAll_pending (s : State) (l : List OutLine) : (s.sendAll l).pending = s.pending := rfl

/-! #### `State.clearFlag` -/

@[simp] theorem clearFlag_flags (s : State) (k : NoticeKind) : (s.clearFlag k).clp.flags = s.clp.flags.put k false := rfl
@[simp] theorem clearFlag_clp_inbound (s : State) (k : NoticeKind) : (s.clearFlag k).clp.inbound = s.clp.inbound := rfl
@[simp] theorem clearFlag_clp_restartDue (s : State) (k : NoticeKind) : (s.clearFlag k).clp.restartDue = s.clp.restartDue := rfl
@[simp] theorem clearFlag_clp_sent (s : State) (k : NoticeKind) : (s.clearFlag k).clp.sent = s.clp.sent := rfl
@[simp] theorem clearFlag_lmc (s : State) (k : NoticeKind) : (s.clearFlag k).lmc = s.lmc := rfl
@[simp] theorem clearFlag_lst (s : State) (k : NoticeKind) : (s.clearFlag k).lst = s.lst := rfl
@[simp] theorem clearFlag_wlc (s : State) (k : NoticeKind) : (s.clearFlag k).wlc = s.wlc := rfl
@[simp] theorem clearFlag_trk (s : State) (k : NoticeKind) : (s.clearFlag k).trk = s.trk := rfl
@[simp] theorem clearFlag_srg (s : State) (k : NoticeKind) : (s.clearFlag k).srg = s.srg := rfl
@[simp] theorem clearFlag_tpc (s : State) (k : NoticeKind) : (s.clearFlag k).tpc = s.tpc := rfl
@[simp] theorem clearFlag_inm (s : State) (k : NoticeKind) : (s.clearFlag k).inm = s.inm := rfl
@[simp] theorem clearFlag_ans (s : State) (k : NoticeKind) : (s.clearFlag k).ans = s.ans := rfl
@[simp] theorem clearFlag_pending (s : State) (k : NoticeKind) : (s.clearFlag k).pending = s.pending := rfl

/-! #### `State.popLine` -/

@[simp] theorem popLine_inbound (s : State) : (s.popLine).clp.inbound = s.clp.inbound.tail := rfl
@[simp] theorem popLine_clp_flags (s : State) : (s.popLine).clp.flags = s.clp.flags := rfl
@[simp] theorem popLine_clp_restartDue (s : State) : (s.popLine).clp.restartDue = s.clp.restartDue := rfl
@[simp] theorem popLine_clp_sent (s : State) : (s.popLine).clp.sent = s.clp.sent := rfl
@[simp] theorem popLine_lmc (s : State) : (s.popLine).lmc = s.lmc := rfl
@[simp] theorem popLine_lst (s : State) : (s.popLine).lst = s.lst := rfl
@[simp] theorem popLine_wlc (s : State) : (s.popLine).wlc = s.wlc := rfl
@[simp] theorem popLine_trk (s : State) : (s.popLine).trk = s.trk := rfl
@[simp] theorem popLine_srg (s : State) : (s.popLine).srg = s.srg := rfl
@[simp] theorem popLine_tpc (s : State) : (s.popLine).tpc = s.tpc := rfl
@[simp] theorem popLine_inm (s : State) : (s.popLine).inm = s.inm := rfl
@[simp] theorem popLine_ans (s : State) : (s.popLine).ans = s.ans := rfl
@[simp] theorem popLine_pending (s : State) : (s.popLine).pending = s.pending := rfl

end Sys2Proof.Laws
end

