-- ==== Sys2Proof/Tests/Slice0.lean ====
section
/-!
SUPPORT. The model's own tests: ill-formed commands that the check refuses, and for each statement with hypotheses a state and operands
that meet them, at the boundaries of their ranges.
-/

namespace Sys2Proof.Tests

open Sys2Proof.Machine Sys2Proof.Safety

set_option Elab.async false

/-! ### Commands that could not come from outside -/

theorem test_wellFormed_tag : (Instr.statusQuery 0).wellFormed = false ∧ (Instr.statusQuery 10000).wellFormed = false ∧
    (Instr.statusQuery 9999).wellFormed = true := by decide

theorem test_wellFormed_char : (Instr.lineArrival ['\t']).wellFormed = false ∧ (Instr.lineArrival ['~']).wellFormed = true := by decide

theorem test_wellFormed_rival : (Instr.tryStart [{ urgency := 0, address := 0 }]).wellFormed = false ∧
    (Instr.tryStart [{ urgency := 0, address := 1023 }]).wellFormed = false ∧
    (Instr.tryStart [{ urgency := 7, address := 1022 }]).wellFormed = true := by decide

/-- A frame with some octets in its payload. -/
def framed (payload : List Octet) : WireFrame :=
  { urgency := 0, originator := 200, kind := 17, sequence := 0, length := 0, payload := payload, check := 0 }

theorem test_wellFormed_frame : (Instr.frameReceive (framed (List.replicate 64 0)) false).wellFormed = false ∧
    (Instr.frameReceive (framed (List.replicate 63 0)) false).wellFormed = true := by decide

theorem test_wellFormed_indices :
    (Instr.tripLapse 0).wellFormed = false ∧ (Instr.tripLapse 10000).wellFormed = false ∧
    (Instr.stallExpiry 0).wellFormed = false ∧ (Instr.stallExpiry 1000).wellFormed = false ∧
    (Instr.pollPoint 0).wellFormed = false ∧ (Instr.silenceExpiry 1023).wellFormed = false ∧
    (Instr.lockoutSpanExpiry 24).wellFormed = false ∧ (Instr.operateLimitExpiry 48).wellFormed = false ∧
    (Instr.playLimitExpiry 32).wellFormed = false ∧ (Instr.displayRefreshExpiry 64).wellFormed = false ∧
    (Instr.entryExpiry 0).wellFormed = false ∧ (Instr.entryExpiry 256).wellFormed = false ∧
    (Instr.deliveryEligible 1 32).wellFormed = false ∧ (Instr.escalationExpiry 0).wellFormed = false ∧
    (Instr.escalationExpiry 65536).wellFormed = false := by decide

/-! ### A line to test on -/

/-- A line of a host with its check, as the part has it once its ending is taken off. -/
def checked (t : String) : Text :=
  let cs := t.toList ++ [' ']
  cs ++ '*' :: hexText (codeSum cs % 256)

/-- The state with one line in the inbound queue. -/
def ask (line : String) (s : State) : State := { s with clp.inbound := [checked line], clp.restartDue := false }

/-- The state that a command leads to. -/
def after (i : Instr) (s : State) : State :=
  match exec i s with
  | .next t => t
  | _ => s

theorem given_iff {lo hi : Nat} {o : Option Nat} : given lo hi o ↔ o.any (fun n => decide (lo ≤ n ∧ n ≤ hi)) = true := by
  cases o <;> simp [given]

theorem fits_iff {lo hi : Nat} {o : Option Nat} : fits lo hi o ↔ o.all (fun n => decide (lo ≤ n ∧ n ≤ hi)) = true := by
  cases o <;> simp [fits]

/-- A segment of the UP track of the test line. -/
def demoSeg (i : Nat) (succ platform : Option Nat) (x : Nat) : Segment :=
  { index := i, track := .up, successor := succ, alternate := none, platform := platform, sec := x, unit := 200, nominal := 600,
    filter := .k8, lower := 10, upper := 10 }

/-- Two stations, four segments in two sections, each with a feeder, and a tie between them. -/
def demoLine : Description :=
  { Description.empty with
    stations := [⟨1, 100, true, 400, true⟩, ⟨2, 101, true, 401, true⟩]
    segments := [demoSeg 10 (some 11) (some 2) 1, demoSeg 11 (some 12) none 1, demoSeg 12 (some 13) (some 4) 2, demoSeg 13 none none 2]
    sections := [⟨1, [5], false, true⟩, ⟨2, [6], false, true⟩]
    substations := [⟨0, 300, [(1, 8), (2, 8)]⟩]
    breakers := [⟨5, .feeder, 300, 1, [1]⟩, ⟨6, .feeder, 300, 2, [2]⟩, ⟨7, .tie, 300, 3, [1, 2]⟩]
    units := [⟨200, .track, 60, true⟩, ⟨300, .power, 60, true⟩, ⟨400, .station, 60, true⟩, ⟨401, .station, 60, true⟩] }

/-- A trip from the first station to the second. -/
def demoTrip (n start : Nat) : TripRecord :=
  { number := n, run := 1, direction := .up, start := start,
    points := [⟨1, none, some start, 20⟩, ⟨2, some (start + 120), none, 20⟩] }

/-- Its record in the trip state table. -/
def demoTripState (n start : Nat) (status : TripStatus) (train : Option Nat) : TripState :=
  { number := n, run := 1, direction := .up, start := start, status := status, train := train, actualStart := none,
    deviation := none, cause := none }

/-- A train that stands at a segment with no call and no authority. -/
def demoTrain (n : Nat) (st : TrainState) (head : Nat) : Train :=
  { number := n, state := st, head := head, tail := none, movement := 0, stallMark := none, stallBase := none, draw := 1,
    trip := none, nextPoint := 0, deviation := 0, holds := [], authority := none, call := none, entryMark := 0,
    entryMove := false, delayEntry := none }

def demoCall (phase : CallPhase) : Call :=
  { platform := 2, arrivalCount := 900, arrivalTime := 39900, point := none, ready := 920, target := 1000, phase := phase,
    retry := none, departWait := none, regulation := Regulation.peakPowerOn }

def demoAuthority (st : AuthState) : Authority :=
  { id := 7, platform := 2, state := st, issuedTime := 39970, issuedCount := 970, sent := true, revokeSends := 1,
    departed := false, echoLimit := none }

def demoSection (x : Nat) (st : SectionState) : SecRec :=
  { index := x, state := st, voltage := .present, lockout := false, reclose := none, span := none, seq := none, lastSeq := none,
    budget := 8, window := none, claims := [] }

def demoUnit (a : Nat) (k : UnitKind) (st : UnitState) : UnitRec :=
  { address := a, kind := k, state := st, heard := none, sequence := none, failures := 0, silenceExpiry := 1000,
    pollPoint := 1000, pollPassed := false, pollPending := false }

def demoPermit (place id sec : Nat) (st : PermitState) : Permit :=
  { place := place, id := id, sec := sec, holder := 65535, state := st, outcome := none, store := .present, eraseFailed := false,
    requested := 0, issued := none, ended := none }

def demoIncident (id : Nat) (phase : Phase) (severity : Nat) : Incident :=
  { id := id, cls := .obstruction, severity := severity, location := .segment 11, phase := phase, origin := .operator, count := 1,
    links := [.holdTrain 118], unlinked := 0, note := none, escalation := some 1000, raisedAt := 0, lastAt := 0, ackAt := none,
    containedAt := none, closedAt := none, cause := none }

def demoDelivery (st : Nat) : Delivery := { station := st, state := .pending, plays := .times 1, eligible := 1000, awaiting := true }

def demoEntry (id : Nat) (w : Option RemovalCause) : Entry :=
  { id := id, template := 1, station := none, minutes := none, platform := none, train := none, priority := .service,
    origin := .operator, rep := .times 1, interval := none, expiry := some 1000, display := false, withdrawing := w,
    deliveries := [demoDelivery 1] }

/-- The test line in TRAFFIC at count 1,000 and line time 40,000: slot 0 active, slot 1 WRITING. -/
def demo : State :=
  { State.reset with
    lmc.working := demoLine, lmc.mode := .traffic, lmc.readiness := none, lmc.timeSet := true, lmc.lineTime := 40000,
    lmc.count := 1000
    lst.lineRegion := .whole demoLine
    lst.slots := [{ Slot.empty with state := .valid, tripCount := 2, pointCount := 4, content := [demoTrip 300 40600, demoTrip 301 41000] },
                  { Slot.empty with state := .writing, tripCount := 1, pointCount := 2 }, Slot.empty,
                  { Slot.empty with state := .damaged }]
    lst.buffer := [demoTrip 300 40600]
    lst.active := some 0
    wlc.outQueue := []
    wlc.registry := [demoUnit 200 .track .live, demoUnit 300 .power .live, demoUnit 400 .station .live, demoUnit 401 .station .stale]
    trk.segs := [⟨10, .occupied 118, none⟩, ⟨11, .unidentified, none⟩, ⟨12, .unidentified, none⟩, ⟨13, .clear, none⟩]
    trk.trains := [demoTrain 118 .positioning 10, demoTrain 301 .stabled 13, demoTrain 999 .lost 13]
    srg.trips := [demoTripState 300 40600 .pending none, demoTripState 301 41000 .running (some 118), demoTripState 302 3 .done none]
    srg.plats := [⟨2, [], none⟩, ⟨4, [], none⟩]
    srg.learned := [⟨10, 600⟩, ⟨11, 600⟩, ⟨12, 600⟩, ⟨13, 600⟩]
    tpc.sections := [demoSection 1 .energised, demoSection 2 .dead]
    tpc.breakers := [⟨5, .closed, none, none, none, none⟩, ⟨6, .opened, none, none, none, none⟩, ⟨7, .opened, none, none, none, none⟩]
    inm.incidents := [demoIncident 1 .raised 1, demoIncident 2 .acknowledged 1, demoIncident 65535 .closed 1]
    ans.entries := [demoEntry 1 none, demoEntry 255 (some .expired)]
    ans.zones := [⟨1, .idle, none⟩, ⟨2, .unreachable, none⟩]
    ans.displays := [⟨2, none, none⟩, ⟨4, none, some 1000⟩] }

/-- The test line in SURVEY. -/
def surveyed : State := { demo with lmc.mode := .survey, lmc.readiness := some .notReady }

/-! ### Steps, starts and the clock -/

theorem test_stepRunsTheFront : step { demo with pending := [.secondTick, .alarm] } = exec .secondTick { demo with pending := [.alarm] } :=
  rfl

theorem witness_emptyQueueIdles : demo.pending = [] := rfl

theorem witness_commandsKeep : (∀ b, Instr.secondTick ≠ .powerOn b) ∧ (∀ b, Instr.secondTick ≠ .restartStart b) ∧
    (∀ g m, Instr.secondTick ≠ .surveyEnd g m) ∧ ∃ t, exec .secondTick demo = .next t :=
  ⟨nofun, nofun, nofun, _, rfl⟩

theorem witness_capacityKept : Capacity demo ∧ ∃ t, follows { demo with pending := [.secondTick] } t := by
  refine ⟨?_, _, rfl⟩
  constructor <;> decide

theorem witness_restarts : due (.restart 9999) (ask "9999 RESTART" demo) := by decide +kernel

theorem witness_restarts_start : demo.clp.restartDue = false ∧ (after (.restart 1) (ask "1 RESTART" demo)).clp.restartDue = true := by
  decide +kernel

theorem test_restartStart : let t := after (.restartStart false) { demo with clp.restartDue := true, lst := Lst.blank }
    t.lmc.count = 1000 ∧ t.lmc.mode = .survey ∧ t.trk.trains = [] ∧ t.lmc.startRecord.restarts = 1 ∧ t.clp.restartDue = false := by
  decide +kernel

theorem witness_clockAdvances : demo.lmc.lineTime ≤ 86399 ∧ { demo with lmc.lineTime := 86399 }.lmc.lineTime = 86399 := by decide

theorem witness_clockAdvances_boundary : demo.lmc.boundaryDue = false ∧
    (after .secondTick { demo with lmc.lineTime := 10799 }).lmc.boundaryDue = true := by decide

theorem witness_timeSet :
    (due (.timeSet 1 (some 86400)) (ask "1 TIME_SET time=86400" demo) ∧ ¬ given 0 86399 (some 86400)) ∧
    (due (.timeSet 1 (some 86399)) (ask "1 TIME_SET time=86399" demo) ∧ ¬ (1 ≤ forward demo.lmc.lineTime demo.boundary ∧
      forward demo.lmc.lineTime demo.boundary ≤ forward demo.lmc.lineTime 86399)) ∧
    (let s := ask "1 TIME_SET time=10800" { demo with lmc.lineTime := 10799 }
     due (.timeSet 1 (some 10800)) s ∧ s.lmc.timeSet = true ∧ 1 ≤ forward s.lmc.lineTime 10800 ∧
       forward s.lmc.lineTime 10800 ≤ 43200 ∧ 1 ≤ forward s.lmc.lineTime s.boundary ∧
       forward s.lmc.lineTime s.boundary ≤ forward s.lmc.lineTime 10800) := by
  simp only [given_iff]; decide +kernel

theorem witness_tripLapse :
    (let s := { demo with lmc.lineTime := 40900 }
     s.tripState? 300 = some (demoTripState 300 40600 .pending none) ∧ s.lmc.timeSet = true ∧ s.offset 40600 + 300 ≤ s.nowOffset) ∧
    (let s := { demo with lmc.lineTime := 40899 }
     s.tripState? 300 = some (demoTripState 300 40600 .pending none) ∧ ¬ s.offset 40600 + 300 ≤ s.nowOffset) ∧
    demo.tripState? 1 = none ∧ demo.lmc.lineTime < 86400 ∧ demo.boundary < 86400 ∧ demo.offset 10500 = 86100 ∧
    (rebuiltTrip demo (demoTrip 300 40600)).status = .pending ∧
    (∃ r ∈ (lapseTrips demo).srg.trips, r.status = .pending) ∧
    ∃ r ∈ { demo with srg.trips := [demoTripState 5 3 .lapsed none] }.srg.trips, r.status = .lapsed := by decide

theorem test_tripLapse :
    ((after (.tripLapse 300) { demo with lmc.lineTime := 40900 }).tripState? 300).map (·.status) = some .lapsed := by decide

/-! ### The control link and the line model -/

theorem test_statusQueryLine : checked "5 STATUS_QUERY" = "5 STATUS_QUERY *4E".toList := by decide

theorem witness_arrival : ∀ c : Text, ∃ t, exec (.lineArrival c) demo = .next t := fun _ => ⟨_, rfl⟩

theorem test_arrival : (after (.lineArrival (checked "5 STATUS_QUERY" ++ ['\r'])) demo).clp.inbound = [checked "5 STATUS_QUERY"] ∧
    (after (.lineArrival "5 STATUS_QUERY *4F".toList) demo).clp.inbound = [] := by decide

theorem test_requestNames : requestTable.length = 62 ∧
    requestTable.all (fun r => (findRequest r.name.toList).map (·.name) == some r.name) = true := by decide +kernel

theorem witness_unknownRequest :
    readLine (checked "0 STATUS_QUERY") = .refused .tag ∧ readLine (checked "9999 STATUS") = .refused (.unknownRequest 9999) ∧
    readLine (checked "1 TIME_SET times=3") = .refused (.field 1 "times".toList) ∧
    readLine (checked "1 MODE_REQUEST target=SURVEY") = .refused (.field 1 "target".toList) ∧
    readLine (checked "1 SURVEY_END target=SURVEY") = .refused (.field 1 "target".toList) ∧
    readLine (checked "1 INCIDENT_RELEASE id=1 action=ESCALATE") = .refused (.field 1 "action".toList) ∧
    readLine (checked "1 STATUS_QUERY") = .request (.statusQuery 1) := by decide +kernel

theorem witness_composed : (1 ≤ 9999 ∧ 9999 ≤ 9999) ∧ 999 < 10 ^ 20 ∧
    readLine (composed 9999 "TRAIN_SET_DRAW" [("number", 999), ("draw_class", 3)]) = .request (.trainSetDraw 9999 (some 999) (some 3)) := by
  decide +kernel

theorem witness_noticeFlag : State.reset.clp.flags.get .mode = true ∧ State.reset.clp.flags.get .train = false := by decide

theorem witness_descriptionLoads : due (.lineLoadBegin 1) (ask "1 LINE_LOAD_BEGIN" demo) ∧ demo.lmc.mode ≠ .survey ∧
    due (.lineLoadBegin 1) (ask "1 LINE_LOAD_BEGIN" { surveyed with lmc.session := .committing }) ∧
    due (.lineLoadBegin 1) (ask "1 LINE_LOAD_BEGIN" surveyed) ∧ surveyed.lmc.mode = .survey ∧ surveyed.lmc.session ≠ .committing := by
  decide +kernel

/-- An OPEN session on an empty staged description. -/
def loading : State := { surveyed with lmc.session := .opened }

/-- The fields of a segment record with every number at the end of its range. -/
def segmentFields : RecordFields :=
  { kind := some .segment, index := some 127, track := some .up, platform := some 63, section_ := some 23, unit := some 1022,
    nominal := some 9999, filter := some .adapt, lower := some 50, upper := some 0 }

theorem witness_loadRecord :
    (let s := ask "1 LINE_LOAD_RECORD kind=UNIT" surveyed
     due (.lineLoadRecord 1 { kind := some .unit }) s ∧ s.lmc.session ≠ .opened) ∧
    (let s := ask "1 LINE_LOAD_RECORD index=3" loading
     due (.lineLoadRecord 1 { index := some 3 }) s ∧ s.lmc.session = .opened) ∧
    due (.lineLoadRecord 1 { kind := some .station, index := some 31, name := some 4095, terminal := some true, unit := some 1022,
                             arrival := some false })
      (ask "1 LINE_LOAD_RECORD kind=STATION index=31 name=4095 terminal=YES unit=1022 arrival=NO" loading) ∧
    due (.lineLoadRecord 1 segmentFields) (ask
      "1 LINE_LOAD_RECORD kind=SEGMENT index=127 track=UP platform=63 section=23 unit=1022 nominal=9999 filter=ADAPT lower=50 upper=0"
      loading) ∧
    due (.lineLoadRecord 1 { segmentFields with successor := some 0, alternate := some 1, nominal := some 10 }) (ask
      "1 LINE_LOAD_RECORD kind=SEGMENT index=127 track=UP successor=0 alternate=1 platform=63 section=23 unit=1022 nominal=10 filter=ADAPT lower=50 upper=0"
      loading) := by decide +kernel

theorem witness_loadRecord_power :
    due (.lineLoadRecord 1 { kind := some .powerSection, index := some 23, feeders := some [47, 0, 1], keepLive := some true,
                             autoReclose := some false })
      (ask "1 LINE_LOAD_RECORD kind=SECTION index=23 feeders=47,0,1 keep-live=YES auto-reclose=NO" loading) ∧
    due (.lineLoadRecord 1 { kind := some .substation, index := some 11, unit := some 1, contributions := some [(23, 8), (0, 0)] })
      (ask "1 LINE_LOAD_RECORD kind=SUBSTATION index=11 unit=1 contributions=23,8,0,0" loading) ∧
    due (.lineLoadRecord 1 { kind := some .breaker, index := some 47, breakerKind := some .tie, unit := some 1, number := some 16,
                             sections := some [0, 23] })
      (ask "1 LINE_LOAD_RECORD kind=BREAKER index=47 breaker_kind=TIE unit=1 number=16 sections=0,23" loading) ∧
    (let s := ask "1 LINE_LOAD_RECORD kind=UNIT address=1022 unit_kind=POWER silence_limit=60 silence-incident_flag=YES" loading
     due (.lineLoadRecord 1 { kind := some .unit, address := some 1022, unitKind := some .power, silence := some 60,
                              silenceIncident := some true }) s ∧
       s.lmc.staged.unit? 1022 = none ∧ s.lmc.staged.units.length < 96) ∧
    (let s := ask "1 LINE_LOAD_RECORD kind=UNIT address=1022 unit_kind=POWER silence_limit=2 silence-incident_flag=YES"
       { loading with lmc.staged.units := List.replicate 96 ⟨1, .track, 2, true⟩ }
     due (.lineLoadRecord 1 { kind := some .unit, address := some 1022, unitKind := some .power, silence := some 2,
                              silenceIncident := some true }) s ∧
       s.lmc.staged.unit? 1022 = none ∧ 96 ≤ s.lmc.staged.units.length) ∧
    due (.lineLoadRecord 1 { kind := some .params, boundary := some 86399, numberBase := some 3996, delayTemplate := some 255 })
      (ask "1 LINE_LOAD_RECORD kind=PARAMS boundary=86399 number_base=3996 delay_template=255" loading) := by
  decide +kernel

theorem witness_descriptionCommits :
    (due (.lineLoadCommit 1) (ask "1 LINE_LOAD_COMMIT" surveyed) ∧ surveyed.lmc.session ≠ .opened) ∧
    (let s := ask "1 LINE_LOAD_COMMIT" { loading with lmc.staged.sections := [⟨0, [], false, true⟩] }
     due (.lineLoadCommit 1) s ∧ ∃ e, descriptionChecks s.lmc.staged = .error e) ∧
    (let s := ask "1 LINE_LOAD_COMMIT" { loading with lmc.staged := demoLine }
     (due (.lineLoadCommit 1) s ∧ (∀ p ∈ s.tpc.permits, p.state = .ended) ∧ s.lst.otherList.length < 4) ∧
       descriptionChecks s.lmc.staged = .ok ()) ∧
    (let s := ask "1 LINE_LOAD_COMMIT" { loading with lmc.staged := demoLine, tpc.permits := [demoPermit 0 1 1 .issued] }
     due (.lineLoadCommit 1) s ∧ ∃ p ∈ s.tpc.permits, p.state ≠ .ended) ∧
    (let s := ask "1 LINE_LOAD_COMMIT" { loading with lmc.staged := demoLine, lst.otherList := List.replicate 4 .indexWrite }
     due (.lineLoadCommit 1) s ∧ 4 ≤ s.lst.otherList.length) :=
  ⟨by decide +kernel, ⟨by decide +kernel, _, rfl⟩, ⟨by decide +kernel, rfl⟩, by decide +kernel, by decide +kernel⟩

theorem witness_lineDescriptionCompletion :
    { demo with lst.inFlight := some (.lineDescription demoLine) }.lst.inFlight = some (.lineDescription demoLine) ∧
    ∀ d, demo.lst.inFlight ≠ some (.lineDescription d) :=
  ⟨rfl, nofun⟩

theorem test_lineDescriptionCompletion :
    let t := after (.lineDescriptionCompletion .done) { surveyed with lst.inFlight := some (.lineDescription Description.empty) }
    t.lmc.working = Description.empty ∧ t.trk.trains = [] ∧ t.lst.active = none ∧ t.lst.slots.length = 4 := by decide +kernel

/-! ### Queries -/

theorem witness_queries_link :
    (due (.unitQuery 1 (some 1023)) (ask "1 UNIT_QUERY address=1023" demo) ∧ ¬ fits 1 1022 (some 1023)) ∧
    due (.unitQuery 1 none) (ask "1 UNIT_QUERY" demo) ∧
    (due (.unitQuery 1 (some 1022)) (ask "1 UNIT_QUERY address=1022" demo) ∧ demo.unitRec? 1022 = none) ∧
    (due (.unitQuery 1 (some 200)) (ask "1 UNIT_QUERY address=200" demo) ∧ (demo.unitRec? 200).isSome) ∧
    (due (.patternQuery 1 (some 16)) (ask "1 PATTERN_QUERY index=16" demo) ∧ ¬ fits 0 15 (some 16)) ∧
    due (.patternQuery 1 (some 15)) (ask "1 PATTERN_QUERY index=15" demo) ∧ due (.storeQuery 1) (ask "1 STORE_QUERY" demo) ∧
    due (.statusQuery 1) (ask "1 STATUS_QUERY" demo) := by simp only [fits_iff]; decide +kernel

theorem witness_queries_service :
    (due (.trainQuery 1 (some 0) none) (ask "1 TRAIN_QUERY number=0" demo) ∧ ¬ fits 1 999 (some 0)) ∧
    (due (.trainQuery 1 (some 998) none) (ask "1 TRAIN_QUERY number=998" demo) ∧ demo.train? 998 = none) ∧
    (due (.trainQuery 1 (some 999) none) (ask "1 TRAIN_QUERY number=999" demo) ∧ (demo.train? 999).isSome) ∧
    due (.trainQuery 1 none (some .segments)) (ask "1 TRAIN_QUERY what=SEGMENTS" demo) ∧
    due (.trainQuery 1 none none) (ask "1 TRAIN_QUERY" demo) ∧
    (due (.tripQuery 1 (some 10000) none) (ask "1 TRIP_QUERY trip=10000" demo) ∧ ¬ fits 1 9999 (some 10000)) ∧
    (due (.tripQuery 1 (some 9999) none) (ask "1 TRIP_QUERY trip=9999" demo) ∧ demo.tripState? 9999 = none) ∧
    (due (.tripQuery 1 (some 300) none) (ask "1 TRIP_QUERY trip=300" demo) ∧ (demo.tripState? 300).isSome) ∧
    due (.tripQuery 1 none (some .platforms)) (ask "1 TRIP_QUERY what=PLATFORMS" demo) ∧
    due (.tripQuery 1 none none) (ask "1 TRIP_QUERY" demo) := by simp only [fits_iff]; decide +kernel

theorem witness_queries_slots :
    (due (.ttQuery 1 (some 4) none) (ask "1 TT_QUERY slot=4" demo) ∧ ¬ given 0 3 (some 4)) ∧
    (due (.ttQuery 1 (some 3) (some 10000)) (ask "1 TT_QUERY slot=3 trip=10000" demo) ∧ (demo.slot? 3).isSome ∧
      ¬ fits 1 9999 (some 10000)) ∧
    (due (.ttQuery 1 (some 0) none) (ask "1 TT_QUERY slot=0" demo) ∧ (demo.slot? 0).isSome) ∧
    (due (.ttQuery 1 (some 0) (some 9999)) (ask "1 TT_QUERY slot=0 trip=9999" demo) ∧
      (demo.slot? 0).all (fun x => ((listedTrips demo x).find? (·.number == 9999)).isNone)) ∧
    (due (.ttQuery 1 (some 0) (some 300)) (ask "1 TT_QUERY slot=0 trip=300" demo) ∧
      (demo.slot? 0).all (fun x => ((listedTrips demo x).find? (·.number == 300)).isSome)) ∧
    (due (.learnQuery 1 (some 128)) (ask "1 LEARN_QUERY segment=128" demo) ∧ ¬ fits 0 127 (some 128)) ∧
    due (.learnQuery 1 none) (ask "1 LEARN_QUERY" demo) ∧
    (due (.learnQuery 1 (some 127)) (ask "1 LEARN_QUERY segment=127" demo) ∧ demo.desc.segment? 127 = none) ∧
    (due (.learnQuery 1 (some 10)) (ask "1 LEARN_QUERY segment=10" demo) ∧ (demo.desc.segment? 10).isSome) := by
  simp only [fits_iff, given_iff]; decide +kernel

theorem witness_queries_power :
    (due (.sectionQuery 1 (some 24) none) (ask "1 SECTION_QUERY section=24" demo) ∧ ¬ given 0 23 (some 24)) ∧
    (due (.sectionQuery 1 (some 23) none) (ask "1 SECTION_QUERY section=23" demo) ∧ demo.sec? 23 = none) ∧
    (due (.sectionQuery 1 (some 1) none) (ask "1 SECTION_QUERY section=1" demo) ∧ (demo.sec? 1).isSome) ∧
    due (.sectionQuery 1 none (some .breakers)) (ask "1 SECTION_QUERY what=BREAKERS" demo) ∧
    due (.sectionQuery 1 none (some .grants)) (ask "1 SECTION_QUERY what=GRANTS" demo) ∧
    due (.sectionQuery 1 none none) (ask "1 SECTION_QUERY" demo) ∧
    (due (.permitQuery 1 (some 256) none) (ask "1 PERMIT_QUERY id=256" demo) ∧ ¬ fits 1 255 (some 256)) ∧
    (due (.permitQuery 1 none (some 24)) (ask "1 PERMIT_QUERY section=24" demo) ∧ fits 1 255 none ∧ ¬ fits 0 23 (some 24)) ∧
    (due (.permitQuery 1 (some 255) none) (ask "1 PERMIT_QUERY id=255" demo) ∧ demo.permit? 255 = none) ∧
    (let s := ask "1 PERMIT_QUERY id=1" { demo with tpc.permits := [demoPermit 0 1 1 .ended] }
     due (.permitQuery 1 (some 1) none) s ∧ (s.permit? 1).isSome) ∧
    (due (.permitQuery 1 none (some 23)) (ask "1 PERMIT_QUERY section=23" demo) ∧ demo.sec? 23 = none) ∧
    (due (.permitQuery 1 none (some 2)) (ask "1 PERMIT_QUERY section=2" demo) ∧ (demo.sec? 2).isSome) ∧
    due (.permitQuery 1 none none) (ask "1 PERMIT_QUERY" demo) := by simp only [fits_iff, given_iff]; decide +kernel

theorem witness_queries_people :
    (due (.incidentQuery 1 (some 65536) none) (ask "1 INCIDENT_QUERY id=65536" demo) ∧ ¬ fits 1 65535 (some 65536)) ∧
    (due (.incidentQuery 1 (some 9) none) (ask "1 INCIDENT_QUERY id=9" demo) ∧ demo.incident? 9 = none) ∧
    (due (.incidentQuery 1 (some 65535) none) (ask "1 INCIDENT_QUERY id=65535" demo) ∧ (demo.incident? 65535).isSome) ∧
    due (.incidentQuery 1 none (some .responses)) (ask "1 INCIDENT_QUERY what=RESPONSES" demo) ∧
    (due (.announceQuery 1 (some 256) none) (ask "1 ANNOUNCE_QUERY id=256" demo) ∧ ¬ fits 1 255 (some 256)) ∧
    (due (.announceQuery 1 (some 2) none) (ask "1 ANNOUNCE_QUERY id=2" demo) ∧ demo.entry? 2 = none) ∧
    (due (.announceQuery 1 (some 255) none) (ask "1 ANNOUNCE_QUERY id=255" demo) ∧ (demo.entry? 255).isSome) ∧
    due (.announceQuery 1 none (some .templates)) (ask "1 ANNOUNCE_QUERY what=TEMPLATES" demo) ∧
    due (.announceQuery 1 none none) (ask "1 ANNOUNCE_QUERY" demo) ∧
    (due (.zoneQuery 1 (some 32)) (ask "1 ZONE_QUERY station=32" demo) ∧ ¬ fits 0 31 (some 32)) ∧
    due (.zoneQuery 1 none) (ask "1 ZONE_QUERY" demo) ∧
    (due (.zoneQuery 1 (some 31)) (ask "1 ZONE_QUERY station=31" demo) ∧ demo.zone? 31 = none) ∧
    (due (.zoneQuery 1 (some 1)) (ask "1 ZONE_QUERY station=1" demo) ∧ (demo.zone? 1).isSome) := by
  simp only [fits_iff]; decide +kernel

theorem witness_queriesKeep : isQuery (.statusQuery 1) = true ∧ isPermitQuery (.statusQuery 1) = false ∧
    ∃ t, exec (.statusQuery 1) demo = .next t := ⟨rfl, rfl, _, rfl⟩

/-! ### The wayside link -/

/-- A pattern with every number at the end of its range. -/
def demoPattern (location : LocationRule) : Pattern :=
  { Pattern.empty with addressValue := 1023, addressMask := 1023, length := .one 32, offset := 26, severity := 4, location := location }

/-- The fields of PATTERN_SET that give an entry. -/
def patternFields (i : Nat) (p : Pattern) : PatternFields :=
  { index := some i, enabled := some p.enabled, addressValue := some p.addressValue, addressMask := some p.addressMask,
    kind := some p.kind, length := some p.length, offset := some p.offset, compare := some p.compare, mask := some p.mask,
    cls := some p.cls, severity := some p.severity, location := some p.location, oneShot := some p.oneShot }

/-- The line of PATTERN_SET that gives the test pattern at a location. -/
def patternText (i location : String) : String :=
  "1 PATTERN_SET index=" ++ i ++ " enabled=NO address_value=1023 address_mask=1023 kind=ANY length=32 offset=26 " ++
  "compare_octets=00,00,00,00,00,00 mask_octets=00,00,00,00,00,00 class=OPERATOR severity=4 location=" ++ location ++ " one-shot=NO"

theorem witness_patternSet :
    (due (.patternSet 1 { index := some 16 }) (ask "1 PATTERN_SET index=16" demo) ∧ ¬ given 0 15 (some 16)) ∧
    (due (.patternSet 1 (patternFields 15 (demoPattern (.fixed (.segment 127))))) (ask (patternText "15" "SEGMENT(127)") demo) ∧
      ruleInRange (.fixed (.segment 127)) = true ∧ ruleKnown demo.desc (.fixed (.segment 127)) = false) ∧
    (due (.patternSet 1 (patternFields 0 (demoPattern .unitLocation))) (ask (patternText "0" "UNIT_LOCATION") demo) ∧
      ruleInRange .unitLocation = true ∧ ruleKnown demo.desc .unitLocation = true) := by
  simp only [given_iff]; decide +kernel

theorem witness_patternArm :
    (let s := ask "1 PATTERN_ARM" { demo with wlc.patterns :=
        [Pattern.empty, { Pattern.empty with enabled := true, length := .one 31, offset := 26 }] }
     due (.patternArm 1) s ∧ ∃ k p, s.wlc.patterns[k]? = some p ∧ p.enabled = true ∧ p.length = .one 31 ∧ 31 < p.offset + 6 ∧
       s.wlc.patterns[0]? = some Pattern.empty ∧ k = 1) ∧
    (due (.patternArm 1) (ask "1 PATTERN_ARM" demo) ∧ ∀ p ∈ demo.wlc.patterns, p.enabled = false) ∧
    (after (.patternArm 1) (ask "1 PATTERN_ARM" demo)).wlc.armed = true ∧
    ({ demo with clp.restartDue := true }).clp.restartDue = true ∧
    ({ demo with lst.inFlight := some (.lineDescription demoLine) }).lst.inFlight = some (.lineDescription demoLine) :=
  ⟨⟨by decide +kernel, 1, _, rfl, rfl, rfl, by decide, rfl, rfl⟩, by decide +kernel, by decide +kernel, rfl, rfl⟩

/-- A frame of the part that waits in the outbound queue. -/
def demoFrame (tries : Nat) (onLine withdrawing removing : Bool) : OutFrame :=
  { dest := 200, body := .poll, sequence := 0, tries := tries, onLine := onLine, withdrawing := withdrawing, removing := removing }

theorem witness_tryStart :
    ({ demo with wlc.line := .unit }).wlc.line ≠ .free ∧ demo.wlc.outQueue = [] ∧
    (let s := { demo with wlc.outQueue := [demoFrame 0 false false false] }
     s.wlc.line = .free ∧ s.wlc.outQueue = [demoFrame 0 false false false] ∧
       (∃ r ∈ [({ urgency := 0, address := 1 } : Rival)], r.urgency.toNat < (demoFrame 0 false false false).body.urgency) ∧
       ∀ r ∈ [({ urgency := 7, address := 1022 } : Rival)], (demoFrame 0 false false false).body.urgency ≤ r.urgency.toNat) := by decide

theorem witness_tryEnd :
    (∀ g d, demo.wlc.line ≠ .part g d) ∧
    (let s := fun f => { demo with wlc.line := .part (wireFrame f) false, wlc.outQueue := [f] }
     (s (demoFrame 2 true false false)).wlc.outQueue.find? (·.onLine) = some (demoFrame 2 true false false) ∧
     (s (demoFrame 1 true false false)).wlc.outQueue.find? (·.onLine) = some (demoFrame 1 true false false) ∧
     (s (demoFrame 0 true true false)).wlc.outQueue.find? (·.onLine) = some (demoFrame 0 true true false) ∧
     (s (demoFrame 0 true false true)).wlc.outQueue.find? (·.onLine) = some (demoFrame 0 true false true)) :=
  ⟨nofun, rfl, rfl, rfl, rfl⟩

theorem test_tryEnd :
    (after (.tryEnd true) { demo with wlc.line := .part (wireFrame (demoFrame 2 true false false)) false,
                                      wlc.outQueue := [demoFrame 2 true false false] }).wlc.outQueue = [] ∧
    ((after (.tryEnd true) { demo with wlc.line := .part (wireFrame (demoFrame 1 true false false)) false,
                                       wlc.outQueue := [demoFrame 1 true false false] }).wlc.outQueue.map (·.tries)) = [2] := by decide

/-- A good frame of a unit. -/
def unitFrame (address : Nat) (kind : BitVec 5) (payload : List Octet) : WireFrame :=
  let f : WireFrame :=
    { urgency := 3, originator := BitVec.ofNat 10 address, kind := kind, sequence := 9, length := BitVec.ofNat 6 payload.length,
      payload := payload, check := 0 }
  { f with check := frameCheck f }

theorem witness_framesReceived :
    frameGood (unitFrame 200 17 [1, 13, 0, 0]) = true ∧ frameGood (framed []) = false ∧ demo.wlc.inBuffer.length < 16 ∧
    16 ≤ ({ demo with wlc.inBuffer := List.replicate 16 (framed []) }).wlc.inBuffer.length ∧ ∀ g d, demo.wlc.line ≠ .part g d :=
  ⟨by decide +kernel, by decide +kernel, by decide, by decide, nofun⟩

/-- A frame of a unit at the head of the inbound buffer. -/
def heard (address : Nat) (kind : BitVec 5) (payload : List Octet) : State :=
  { demo with wlc.inBuffer := [unitFrame address kind payload] }

theorem witness_framesReceived_taken :
    accepts (heard 200 16 []) (unitFrame 200 16 []) .trackEvent ∧ accepts (heard 200 17 []) (unitFrame 200 17 []) .trackStatus ∧
    accepts (heard 300 18 []) (unitFrame 300 18 []) .powerStatus ∧ accepts (heard 300 19 []) (unitFrame 300 19 []) .selectEcho ∧
    accepts (heard 200 20 []) (unitFrame 200 20 []) .revokeEcho ∧ accepts (heard 400 21 []) (unitFrame 400 21 []) .stationStatus ∧
    accepts (heard 400 22 []) (unitFrame 400 22 []) .playEnd ∧ accepts (heard 401 23 []) (unitFrame 401 23 []) .alarm ∧
    (∀ k, ¬ accepts (heard 201 16 []) (unitFrame 201 16 []) k) := by
  refine ⟨⟨_, rfl, rfl, rfl, nofun⟩, ⟨_, rfl, rfl, rfl, nofun⟩, ⟨_, rfl, rfl, rfl, nofun⟩, ⟨_, rfl, rfl, rfl, nofun⟩,
    ⟨_, rfl, rfl, rfl, nofun⟩, ⟨_, rfl, rfl, rfl, nofun⟩, ⟨_, rfl, rfl, rfl, nofun⟩, ⟨_, rfl, rfl, rfl, nofun⟩, ?_⟩
  rintro k ⟨u, h, -⟩
  rw [show (heard 201 16 []).unitRec? (unitFrame 201 16 []).originator.toNat = none by decide] at h
  cases h

theorem test_trackEvent : (after .trackEvent (heard 200 16 [0, 11, 0, 0])).occ 11 = .occupied 118 := by decide +kernel

theorem test_powerStatus : let t := after .powerStatus (heard 300 18 [1, 16 * 1 + 8 + 2])
    t.brkState? 6 = some .closed ∧ t.wlc.inBuffer = [] := by decide +kernel

theorem witness_unitTimers :
    demo.unitRec? 9 = none ∧ demo.unitRec? 200 = some (demoUnit 200 .track .live) ∧
      demo.unitRec? 401 = some (demoUnit 401 .station .stale) ∧
    (demoUnit 200 .track .live).pollPoint ≤ demo.lmc.count ∧ (demoUnit 200 .track .live).silenceExpiry ≤ demo.lmc.count ∧
    ({ demo with lmc.count := 999 }).lmc.count < (demoUnit 200 .track .live).silenceExpiry := by decide

theorem test_silence : ((after (.silenceExpiry 200) demo).unitRec? 200).map (·.state) = some .stale := by decide +kernel

/-! ### Trains -/

theorem witness_stall :
    (due (.stallLimitSet 1 (some 29)) (ask "1 STALL_LIMIT_SET limit=29" demo) ∧ ¬ given 30 600 (some 29)) ∧
    (due (.stallLimitSet 1 (some 601)) (ask "1 STALL_LIMIT_SET limit=601" demo) ∧ ¬ given 30 600 (some 601)) ∧
    due (.stallLimitSet 1 (some 30)) (ask "1 STALL_LIMIT_SET limit=30" demo) ∧
    due (.stallLimitSet 1 (some 600)) (ask "1 STALL_LIMIT_SET limit=600" demo) ∧
    demo.train? 1 = none ∧ demo.train? 118 = some (demoTrain 118 .positioning 10) ∧
    (∃ t, { demo with trk.trains := [{ demoTrain 5 .inService 10 with stallBase := some 880 }] }.train? 5 = some t ∧
      t.stallBase = some 880 ∧ 880 + demo.trk.stallLimit ≤ demo.lmc.count ∧ ¬ 881 + demo.trk.stallLimit ≤ demo.lmc.count) := by
  simp only [given_iff]; exact ⟨by decide +kernel, by decide +kernel, by decide +kernel, by decide +kernel, rfl, rfl, _, rfl, rfl, by decide, by decide⟩

theorem test_stall : let t := after (.stallExpiry 5) { demo with trk.trains := [{ demoTrain 5 .inService 10 with stallBase := some 880 }] }
    (t.train? 5).map (·.stallMark) = some (some 10) ∧ t.inm.incidents.length = 4 := by decide +kernel

theorem witness_trainSetNumber :
    (due (.trainSetNumber 1 (some 128) (some 5) none) (ask "1 TRAIN_SET_NUMBER segment=128 number=5" demo) ∧ ¬ given 0 127 (some 128)) ∧
    (due (.trainSetNumber 1 (some 12) (some 1000) none) (ask "1 TRAIN_SET_NUMBER segment=12 number=1000" demo) ∧
      ¬ given 1 999 (some 1000)) ∧
    (due (.trainSetNumber 1 (some 12) (some 5) (some 128)) (ask "1 TRAIN_SET_NUMBER segment=12 number=5 tail=128" demo) ∧
      ¬ fits 0 127 (some 128)) ∧
    (due (.trainSetNumber 1 (some 127) (some 5) none) (ask "1 TRAIN_SET_NUMBER segment=127 number=5" demo) ∧
      demo.desc.segment? 127 = none) ∧
    (due (.trainSetNumber 1 (some 10) (some 5) none) (ask "1 TRAIN_SET_NUMBER segment=10 number=5" demo) ∧
      demo.desc.segment? 10 ≠ none ∧ demo.occ 10 ≠ .unidentified) ∧
    (due (.trainSetNumber 1 (some 12) (some 1) (some 11)) (ask "1 TRAIN_SET_NUMBER segment=12 number=1 tail=11" demo) ∧
      demo.occ 12 = .unidentified ∧ demo.occ 11 = .unidentified ∧ demo.desc.follows 12 11 = true ∧ demo.train? 1 = none ∧
      demo.trk.trains.length < 48) ∧
    (let s := ask "1 TRAIN_SET_NUMBER segment=12 number=1" { demo with trk.trains := List.replicate 48 (demoTrain 2 .stabled 13) }
     due (.trainSetNumber 1 (some 12) (some 1) none) s ∧ s.train? 1 = none ∧ 48 ≤ s.trk.trains.length) ∧
    (due (.trainSetNumber 1 (some 12) (some 118) none) (ask "1 TRAIN_SET_NUMBER segment=12 number=118" demo) ∧
      demo.train? 118 = some (demoTrain 118 .positioning 10)) ∧
    (due (.trainSetNumber 1 (some 12) (some 999) none) (ask "1 TRAIN_SET_NUMBER segment=12 number=999" demo) ∧
      demo.train? 999 = some (demoTrain 999 .lost 13)) := by simp only [given_iff, fits_iff]; decide +kernel

theorem test_trainSetNumber : let t := after (.trainSetNumber 1 (some 12) (some 999) none) (ask "1 TRAIN_SET_NUMBER segment=12 number=999" demo)
    t.occ 12 = .occupied 999 ∧ (t.train? 999).map (·.head) = some 12 ∧ (t.train? 999).map (·.state) = some .positioning := by decide +kernel

theorem witness_trainWithdraw :
    (due (.trainWithdraw 1 (some 1000)) (ask "1 TRAIN_WITHDRAW number=1000" demo) ∧ ¬ given 1 999 (some 1000)) ∧
    (due (.trainWithdraw 1 (some 1)) (ask "1 TRAIN_WITHDRAW number=1" demo) ∧ demo.train? 1 = none) ∧
    (due (.trainWithdraw 1 (some 118)) (ask "1 TRAIN_WITHDRAW number=118" demo) ∧
      demo.train? 118 = some (demoTrain 118 .positioning 10)) ∧
    (due (.trainWithdraw 1 (some 301)) (ask "1 TRAIN_WITHDRAW number=301" demo) ∧ demo.train? 301 = some (demoTrain 301 .stabled 13)) ∧
    (due (.trainWithdraw 1 (some 999)) (ask "1 TRAIN_WITHDRAW number=999" demo) ∧ demo.train? 999 = some (demoTrain 999 .lost 13)) := by
  simp only [given_iff]; decide +kernel

theorem test_trainWithdraw : (after (.trainWithdraw 1 (some 999)) (ask "1 TRAIN_WITHDRAW number=999" demo)).train? 999 = none := by
  decide +kernel

theorem witness_trainSetDraw :
    (due (.trainSetDraw 1 (some 0) (some 3)) (ask "1 TRAIN_SET_DRAW number=0 draw_class=3" demo) ∧ ¬ given 1 999 (some 0)) ∧
    (due (.trainSetDraw 1 (some 999) (some 4)) (ask "1 TRAIN_SET_DRAW number=999 draw_class=4" demo) ∧ given 1 999 (some 999) ∧
      ¬ given 1 3 (some 4)) ∧
    (due (.trainSetDraw 1 (some 1) (some 1)) (ask "1 TRAIN_SET_DRAW number=1 draw_class=1" demo) ∧ demo.train? 1 = none) ∧
    (due (.trainSetDraw 1 (some 999) (some 3)) (ask "1 TRAIN_SET_DRAW number=999 draw_class=3" demo) ∧
      demo.train? 999 = some (demoTrain 999 .lost 13)) := by simp only [given_iff]; decide +kernel

/-- A train whose call waits at the first platform. -/
def waiting : State :=
  { demo with
    trk.segs := [⟨10, .occupied 118, none⟩, ⟨11, .clear, none⟩, ⟨12, .clear, none⟩, ⟨13, .clear, none⟩]
    trk.trains := [{ demoTrain 118 .positioning 10 with call := some (demoCall .waiting), trip := some 301 }] }

theorem witness_drawClass_grant : ∃ r, waiting.train? 118 = some r ∧ r.call = some (demoCall .waiting) ∧
    (evaluationChecks waiting r (demoCall .waiting)).isSome ∧ (requestGrant 118 1 1 25 waiting).1 = true ∧
    (requestGrant 118 2 1 25 waiting).1 = false := ⟨_, rfl, rfl, by decide +kernel, by decide +kernel, by decide +kernel⟩

/-! ### The line store and timetables -/

theorem witness_ttOpen :
    demo.lst.slots.length = 4 ∧
    (due (.ttOpen 1 (some 4) (some 5)) (ask "1 TT_OPEN slot=4 name_code=5" demo) ∧ ¬ given 0 3 (some 4)) ∧
    (due (.ttOpen 1 (some 3) (some 65536)) (ask "1 TT_OPEN slot=3 name_code=65536" demo) ∧ given 0 3 (some 3) ∧
      ¬ given 0 65535 (some 65536)) ∧
    (due (.ttOpen 1 (some 0) (some 65535)) (ask "1 TT_OPEN slot=0 name_code=65535" demo) ∧ demo.lst.active = some 0) ∧
    (due (.ttOpen 1 (some 3) (some 65535)) (ask "1 TT_OPEN slot=3 name_code=65535" demo) ∧
      (∃ y, demo.lst.slots[1]? = some y ∧ y.state = .writing)) ∧
    (due (.ttOpen 1 (some 1) (some 0)) (ask "1 TT_OPEN slot=1 name_code=0" demo) ∧ demo.lst.active ≠ some 1 ∧
      demo.lst.scheduled ≠ some 1 ∧ (∃ x, demo.lst.slots[1]? = some x ∧ x.state ≠ .committing) ∧
      (demo.lst.slots.eraseIdx 1).all fun y => y.state != .writing && y.state != .committing) :=
  ⟨rfl, ⟨by decide +kernel, by simp [given]⟩, ⟨by decide +kernel, by simp [given], by simp [given]⟩, by decide +kernel,
    ⟨by decide +kernel, _, rfl, rfl⟩, by decide +kernel, nofun, nofun, ⟨_, rfl, nofun⟩, rfl⟩

theorem test_ttOpen : let t := after (.ttOpen 1 (some 1) (some 0)) (ask "1 TT_OPEN slot=1 name_code=0" demo)
    t.lst.buffer = [] ∧ (t.slot? 1).map (fun x => (x.state, x.tripCount)) = some (.writing, 0) := by decide +kernel

theorem witness_ttAbandon :
    (due (.ttAbandon 1 (some 4)) (ask "1 TT_ABANDON slot=4" demo) ∧ ¬ given 0 3 (some 4)) ∧
    (due (.ttAbandon 1 (some 3)) (ask "1 TT_ABANDON slot=3" demo) ∧ (demo.slot? 3).map (·.state) = some .damaged) ∧
    (due (.ttAbandon 1 (some 1)) (ask "1 TT_ABANDON slot=1" demo) ∧ (demo.slot? 1).map (·.state) = some .writing) := by
  simp only [given_iff]; decide +kernel

/-- The fields of TT_ADD_TRIP that give a trip. -/
def tripFields (i : Nat) (r : TripRecord) : TripFields :=
  { slot := some i, trip := some r.number, run := some r.run, direction := some r.direction, start := some r.start,
    points := some r.points }

theorem witness_ttAddTrip :
    (due (.ttAddTrip 1 { slot := some 4 }) (ask "1 TT_ADD_TRIP slot=4" demo) ∧ ¬ given 0 3 (some 4)) ∧
    (due (.ttAddTrip 1 { slot := some 3 }) (ask "1 TT_ADD_TRIP slot=3" demo) ∧ (demo.slot? 3).map (·.state) = some .damaged) ∧
    due (.ttAddTrip 1 (tripFields 1 (demoTrip 300 40600)))
      (ask "1 TT_ADD_TRIP slot=1 trip=300 run_number=1 direction=UP start=40600 timing_points=1,-,40600,20,2,40720,-,20" demo) ∧
    due (.ttAddTrip 1 (tripFields 1 (demoTrip 9999 86000)))
      (ask "1 TT_ADD_TRIP slot=1 trip=9999 run_number=1 direction=UP start=86000 timing_points=1,-,86000,20,2,86120,-,20" demo) ∧
    demo.lst.buffer.map (·.number) = [300] ∧ demo.offset 40600 ≤ demo.offset 86000 ∧ (demo.slot? 1).map (·.state) = some .writing ∧
    pointCount demo.lst.buffer + 2 ≤ 16384 := by simp only [given_iff]; decide +kernel

theorem witness_ttAddTrip_trip : let r := demoTrip 9999 86000
    checkPoints r.points pointRanges = .ok () ∧ checkTimes demo r.start r.points = .ok () ∧ repeatedStation 0 r.points = none ∧
    (∀ k pt, r.points[k]? = some pt → pointShape r.points.length k pt = true) ∧
    (∀ pt ∈ r.points, demo.desc.station? pt.station ≠ none ∧ demo.desc.platformExists (pointPlatform r.direction pt) = true) := by
  refine ⟨rfl, rfl, rfl, ?_, by decide⟩
  intro k pt h
  match k, h with
  | 0, h => cases h; rfl
  | 1, h => cases h; rfl
  | _ + 2, h => cases h

theorem test_ttAddTrip :
    let t := after (.ttAddTrip 1 (tripFields 1 (demoTrip 9999 86000)))
      (ask "1 TT_ADD_TRIP slot=1 trip=9999 run_number=1 direction=UP start=86000 timing_points=1,-,86000,20,2,86120,-,20" demo)
    t.lst.buffer.length = 2 ∧ (t.slot? 1).map (fun x => (x.tripCount, x.pointCount)) = some (2, 4) := by decide +kernel

theorem witness_ttClose :
    (due (.ttClose 1 (some 4)) (ask "1 TT_CLOSE slot=4" demo) ∧ ¬ given 0 3 (some 4)) ∧
    (due (.ttClose 1 (some 3)) (ask "1 TT_CLOSE slot=3" demo) ∧ (demo.slot? 3).map (·.state) = some .damaged) ∧
    (let s := ask "1 TT_CLOSE slot=1" { demo with lst.buffer := [] }
     due (.ttClose 1 (some 1)) s ∧ (s.slot? 1).map (·.state) = some .writing ∧ s.lst.buffer = []) ∧
    (let s := ask "1 TT_CLOSE slot=1" { demo with lst.otherList := List.replicate 4 .indexWrite }
     due (.ttClose 1 (some 1)) s ∧ s.lst.buffer ≠ [] ∧ 4 ≤ s.lst.otherList.length) ∧
    (due (.ttClose 1 (some 1)) (ask "1 TT_CLOSE slot=1" demo) ∧ (demo.slot? 1).map (·.state) = some .writing ∧ demo.lst.buffer ≠ [] ∧
      demo.lst.otherList.length < 4) := by simp only [given_iff]; decide +kernel

theorem witness_ttActivate :
    (due (.ttActivate 1 none) (ask "1 TT_ACTIVATE" demo) ∧ isPassenger demo.lmc.mode = true) ∧
    (due (.ttActivate 1 none) (ask "1 TT_ACTIVATE" surveyed) ∧ isPassenger surveyed.lmc.mode = false) ∧
    due (.ttActivate 1 (some (.one 4))) (ask "1 TT_ACTIVATE slot=4" surveyed) ∧
    (due (.ttActivate 1 (some (.one 3))) (ask "1 TT_ACTIVATE slot=3" surveyed) ∧ (surveyed.slot? 3).map (·.state) = some .damaged) ∧
    (due (.ttActivate 1 (some (.one 0))) (ask "1 TT_ACTIVATE slot=0" surveyed) ∧ (surveyed.slot? 0).map (·.state) = some .valid) ∧
    due (.ttActivate 1 (some .none)) (ask "1 TT_ACTIVATE slot=NONE" surveyed) := by decide +kernel

theorem test_ttActivate : let t := after (.ttActivate 1 (some (.one 0))) (ask "1 TT_ACTIVATE slot=0" surveyed)
    t.srg.trips.map (·.number) = [300, 301] ∧ t.lst.inFlight = some (.indexWrite (some 0) none) := by decide +kernel

theorem witness_ttSchedule :
    due (.ttSchedule 1 none) (ask "1 TT_SCHEDULE" demo) ∧ due (.ttSchedule 1 (some (.one 4))) (ask "1 TT_SCHEDULE slot=4" demo) ∧
    (due (.ttSchedule 1 (some (.one 3))) (ask "1 TT_SCHEDULE slot=3" demo) ∧ (demo.slot? 3).map (·.state) = some .damaged) ∧
    (due (.ttSchedule 1 (some (.one 0))) (ask "1 TT_SCHEDULE slot=0" demo) ∧ (demo.slot? 0).map (·.state) = some .valid) ∧
    due (.ttSchedule 1 (some .none)) (ask "1 TT_SCHEDULE slot=NONE" demo) := by decide +kernel

/-- The state with an operation in flight. -/
def flying (f : InFlight) : State := { demo with lst.inFlight := some f }

theorem witness_completions : let r : PermitRecord := { place := 15, id := 255, sec := 23, holder := 65535, requested := 0 }
    (flying (.permitWrite r)).lst.inFlight = some (.permitWrite r) ∧ (flying (.permitErase 15)).lst.inFlight = some (.permitErase 15) ∧
    (flying (.templateWrite 255 [])).lst.inFlight = some (.templateWrite 255 []) ∧
    (flying (.responseWrite .operator 4 Response.empty)).lst.inFlight = some (.responseWrite .operator 4 Response.empty) ∧
    (flying (.indexWrite none (some 3))).lst.inFlight = some (.indexWrite none (some 3)) ∧ (∀ f, demo.lst.inFlight ≠ some f) ∧
    (let s := { flying (.commitPage 1) with lst.slots := [Slot.empty, { Slot.empty with state := .committing, pages := 2 }, Slot.empty, Slot.empty] }
     s.lst.inFlight = some (.commitPage 1) ∧ (s.slot? 1).map (fun x => decide (x.pagesDone + 1 < x.pages)) = some true) ∧
    (let s := { flying (.commitPage 3) with lst.slots := [Slot.empty, Slot.empty, Slot.empty, { Slot.empty with state := .committing, pages := 1 }] }
     s.lst.inFlight = some (.commitPage 3) ∧ (s.slot? 3).map (fun x => decide (x.pages ≤ x.pagesDone + 1)) = some true) :=
  ⟨rfl, rfl, rfl, rfl, rfl, nofun, ⟨rfl, rfl⟩, rfl, rfl⟩

theorem test_completions :
    (after (.templateWriteCompletion .done) (flying (.templateWrite 255 [.phrase 4095]))).ans.templates = [⟨255, [.phrase 4095], false⟩] ∧
    (after (.indexWriteCompletion .done) (flying (.indexWrite none (some 3)))).lst.storedScheduled = some 3 ∧
    (after (.permitEraseCompletion .failed) (flying (.permitErase 15))).lst.permits = [] := by decide +kernel

/-! ### Service regulation -/

/-- A POSITIONING train at the first platform, and a PENDING trip of the slot whose start is the boundary of being near enough. -/
def nearTrip (start : Nat) : State := { demo with srg.trips := [demoTripState 300 start .pending none] }

theorem witness_tripAssign :
    (due (.tripAssign 1 none none) (ask "1 TRIP_ASSIGN" surveyed) ∧ isPassenger surveyed.lmc.mode = false) ∧
    (due (.tripAssign 1 (some 0) (some 1)) (ask "1 TRIP_ASSIGN train=0 trip=1" demo) ∧ isPassenger demo.lmc.mode = true ∧
      ¬ given 1 999 (some 0)) ∧
    (due (.tripAssign 1 (some 999) (some 0)) (ask "1 TRIP_ASSIGN train=999 trip=0" demo) ∧ given 1 999 (some 999) ∧
      ¬ given 1 9999 (some 0)) ∧
    (due (.tripAssign 1 (some 1) (some 9999)) (ask "1 TRIP_ASSIGN train=1 trip=9999" demo) ∧ demo.train? 1 = none) ∧
    (due (.tripAssign 1 (some 118) (some 9999)) (ask "1 TRIP_ASSIGN train=118 trip=9999" demo) ∧ (demo.train? 118).isSome ∧
      demo.tripState? 9999 = none) ∧
    (due (.tripAssign 1 (some 999) (some 300)) (ask "1 TRIP_ASSIGN train=999 trip=300" demo) ∧
      demo.train? 999 = some (demoTrain 999 .lost 13)) ∧
    (due (.tripAssign 1 (some 118) (some 300)) (ask "1 TRIP_ASSIGN train=118 trip=300" (nearTrip 40601)) ∧
      (nearTrip 40601).nowOffset + 600 < (nearTrip 40601).offset 40601) ∧
    (due (.tripAssign 1 (some 118) (some 300)) (ask "1 TRIP_ASSIGN train=118 trip=300" (nearTrip 40600)) ∧
      (nearTrip 40600).offset 40600 ≤ (nearTrip 40600).nowOffset + 600 ∧ (nearTrip 40600).desc.platformOf? 10 = some 2 ∧
      (nearTrip 40600).firstPlatform? 300 = some 2) ∧
    (let s := ask "1 TRIP_ASSIGN train=118 trip=300" { nearTrip 40600 with trk.trains := [demoTrain 118 .positioning 12] }
     due (.tripAssign 1 (some 118) (some 300)) s ∧ s.desc.platformOf? 12 = some 4 ∧ s.firstPlatform? 300 ≠ some 4) := by
  simp only [given_iff]; decide +kernel

theorem test_tripAssign : let t := after (.tripAssign 1 (some 118) (some 300)) (ask "1 TRIP_ASSIGN train=118 trip=300" (nearTrip 40600))
    (t.train? 118).map (fun r => (r.state, r.trip)) = some (.inService, some 300) ∧ (t.tripState? 300).map (·.status) = some .running := by
  decide +kernel

theorem witness_tripCancel :
    (due (.tripCancel 1 (some 10000)) (ask "1 TRIP_CANCEL trip=10000" demo) ∧ ¬ given 1 9999 (some 10000)) ∧
    (due (.tripCancel 1 (some 9999)) (ask "1 TRIP_CANCEL trip=9999" demo) ∧ demo.tripState? 9999 = none) ∧
    (due (.tripCancel 1 (some 302)) (ask "1 TRIP_CANCEL trip=302" demo) ∧ demo.tripState? 302 = some (demoTripState 302 3 .done none)) ∧
    (due (.tripCancel 1 (some 300)) (ask "1 TRIP_CANCEL trip=300" demo) ∧
      demo.tripState? 300 = some (demoTripState 300 40600 .pending none)) ∧
    (due (.tripCancel 1 (some 301)) (ask "1 TRIP_CANCEL trip=301" demo) ∧
      demo.tripState? 301 = some (demoTripState 301 41000 .running (some 118))) := by simp only [given_iff]; decide +kernel

theorem witness_holds_trains :
    due (.holdTrain 1 (some 1000)) (ask "1 HOLD_TRAIN train=1000" demo) ∧
      due (.releaseTrain 1 (some 0)) (ask "1 RELEASE_TRAIN train=0" demo) ∧
    ¬ given 1 999 (some 1000) ∧ ¬ given 1 999 (some 0) ∧
    due (.holdTrain 1 (some 1)) (ask "1 HOLD_TRAIN train=1" demo) ∧ due (.releaseTrain 1 (some 1)) (ask "1 RELEASE_TRAIN train=1" demo) ∧
    demo.train? 1 = none ∧ demo.train? 999 ≠ none ∧
    due (.holdTrain 1 (some 999)) (ask "1 HOLD_TRAIN train=999" demo) ∧
    due (.releaseTrain 1 (some 999)) (ask "1 RELEASE_TRAIN train=999" demo) := by simp only [given_iff]; decide +kernel

theorem witness_holds_platforms :
    due (.holdPlatform 1 (some 64)) (ask "1 HOLD_PLATFORM platform=64" demo) ∧
    due (.releasePlatform 1 (some 64)) (ask "1 RELEASE_PLATFORM platform=64" demo) ∧ ¬ given 0 63 (some 64) ∧
    due (.holdPlatform 1 (some 63)) (ask "1 HOLD_PLATFORM platform=63" demo) ∧
    due (.releasePlatform 1 (some 0)) (ask "1 RELEASE_PLATFORM platform=0" demo) ∧ demo.plat? 63 = none ∧ demo.plat? 0 = none ∧
    demo.plat? 2 ≠ none ∧ due (.holdPlatform 1 (some 2)) (ask "1 HOLD_PLATFORM platform=2" demo) ∧
    due (.releasePlatform 1 (some 2)) (ask "1 RELEASE_PLATFORM platform=2" demo) := by simp only [given_iff]; decide +kernel

theorem test_holdPlatform :
    ((after (.holdPlatform 1 (some 2)) (ask "1 HOLD_PLATFORM platform=2" demo)).plat? 2).map (·.holds) = some [.operator] := by
  decide +kernel

theorem witness_regulationSet :
    due (.regulationSet 1 {}) (ask "1 REGULATION_SET" demo) ∧
    (due (.regulationSet 1 { set := some .peak, headway := some 59 }) (ask "1 REGULATION_SET set=PEAK target_headway=59" demo) ∧
      ¬ fits 60 900 (some 59)) ∧
    (due (.regulationSet 1 { set := some .peak, headway := some 900, tolerance := some 60, window := some 60 })
      (ask "1 REGULATION_SET set=PEAK target_headway=900 early_tolerance=60 start_window=60" demo) ∧ fits 60 900 (some 900) ∧
      fits 0 60 (some 60) ∧ fits 10 60 (some 60)) ∧
    due (.regulationSet 1 { set := some .offPeak, method := some .headway, headway := some 60, window := some 10 })
      (ask "1 REGULATION_SET set=OFF_PEAK method=HEADWAY target_headway=60 start_window=10" demo) := by
  simp only [fits_iff]; decide +kernel

theorem witness_delaySet :
    (due (.delaySet 1 (some 1801) (some 0)) (ask "1 DELAY_SET on-threshold=1801 off-threshold=0" demo) ∧ ¬ given 60 1800 (some 1801)) ∧
    (due (.delaySet 1 (some 1800) (some 601)) (ask "1 DELAY_SET on-threshold=1800 off-threshold=601" demo) ∧ ¬ given 0 600 (some 601)) ∧
    due (.delaySet 1 (some 60) (some 60)) (ask "1 DELAY_SET on-threshold=60 off-threshold=60" demo) ∧
    due (.delaySet 1 (some 60) (some 59)) (ask "1 DELAY_SET on-threshold=60 off-threshold=59" demo) ∧
    due (.delaySet 1 (some 1800) (some 600)) (ask "1 DELAY_SET on-threshold=1800 off-threshold=600" demo) := by
  simp only [given_iff]; decide +kernel

theorem witness_escalationSet :
    due (.escalationSet 1 none (some 30)) (ask "1 ESCALATION_SET period=30" demo) ∧
    (due (.escalationSet 1 (some .operator) (some 29)) (ask "1 ESCALATION_SET class=OPERATOR period=29" demo) ∧
      ¬ given 30 600 (some 29)) ∧
    due (.escalationSet 1 (some .operator) (some 30)) (ask "1 ESCALATION_SET class=OPERATOR period=30" demo) ∧
    due (.escalationSet 1 (some .trainStopped) (some 600)) (ask "1 ESCALATION_SET class=TRAIN_STOPPED period=600" demo) := by
  simp only [given_iff]; decide +kernel

theorem witness_learning :
    (due (.learnSet 1 (some 128) none none none) (ask "1 LEARN_SET segment=128" demo) ∧ ¬ given 0 127 (some 128)) ∧
    (due (.learnSet 1 (some 127) none (some 51) none) (ask "1 LEARN_SET segment=127 lower=51" demo) ∧ ¬ fits 0 50 (some 51)) ∧
    (due (.learnSet 1 (some 127) none (some 50) (some 51)) (ask "1 LEARN_SET segment=127 lower=50 upper=51" demo) ∧
      fits 0 50 (some 50) ∧ ¬ fits 0 50 (some 51)) ∧
    (due (.learnSet 1 (some 127) none none none) (ask "1 LEARN_SET segment=127" demo) ∧ demo.desc.segment? 127 = none) ∧
    (due (.learnSet 1 (some 10) (some .adapt) (some 0) (some 50)) (ask "1 LEARN_SET segment=10 filter=ADAPT lower=0 upper=50" demo) ∧
      demo.desc.segment? 10 ≠ none) ∧
    due (.learnReset 1 none) (ask "1 LEARN_RESET" demo) ∧ due (.learnReset 1 (some .all)) (ask "1 LEARN_RESET segment=ALL" demo) ∧
    due (.learnReset 1 (some (.one 128))) (ask "1 LEARN_RESET segment=128" demo) ∧
    due (.learnReset 1 (some (.one 127))) (ask "1 LEARN_RESET segment=127" demo) ∧
    due (.learnReset 1 (some (.one 10))) (ask "1 LEARN_RESET segment=10" demo) := by simp only [given_iff, fits_iff]; decide +kernel

/-- A train that holds an authority at the first platform. -/
def authorised (a : Authority) : State := { demo with trk.trains := [{ demoTrain 118 .inService 10 with authority := some a }] }

theorem witness_authorityClear :
    (due (.authorityClear 1 (some 0)) (ask "1 AUTHORITY_CLEAR train=0" demo) ∧ ¬ given 1 999 (some 0)) ∧
    (due (.authorityClear 1 (some 1)) (ask "1 AUTHORITY_CLEAR train=1" demo) ∧ demo.train? 1 = none) ∧
    (due (.authorityClear 1 (some 999)) (ask "1 AUTHORITY_CLEAR train=999" demo) ∧ (demo.train? 999).bind (·.authority) = none ∧
      demo.train? 999 ≠ none) ∧
    (let s := ask "1 AUTHORITY_CLEAR train=118" (authorised (demoAuthority .unconfirmed))
     due (.authorityClear 1 (some 118)) s ∧ (s.train? 118).bind (·.authority) = some (demoAuthority .unconfirmed)) := by
  simp only [given_iff]; decide +kernel

/-- A train whose call is in a phase. -/
def calling (c : Call) : State := { demo with trk.trains := [{ demoTrain 118 .inService 10 with call := some c }] }

theorem witness_serviceTimers :
    (demo.train? 118).bind (·.call) = none ∧ (demo.train? 118).bind (·.authority) = none ∧
    ((calling (demoCall .dwelling)).train? 118).bind (·.call) = some (demoCall .dwelling) ∧ (demoCall .dwelling).target ≤ demo.lmc.count ∧
    ({ demo with lmc.count := 999 }).lmc.count < (demoCall .dwelling).target ∧
    ((calling { demoCall .waiting with retry := some 1000 }).train? 118).bind (·.call) = some { demoCall .waiting with retry := some 1000 } ∧
    ((calling { demoCall .departing with departWait := some 1000 }).train? 118).bind (·.call) =
      some { demoCall .departing with departWait := some 1000 } ∧
    ((authorised (demoAuthority .issued)).train? 118).bind (·.authority) = some (demoAuthority .issued) ∧
    (demoAuthority .issued).issuedCount + 30 ≤ demo.lmc.count ∧ ({ demo with lmc.count := 999 }).lmc.count < 970 + 30 ∧
    ((authorised { demoAuthority .revoking with echoLimit := some 1000 }).train? 118).bind (·.authority) =
      some { demoAuthority .revoking with echoLimit := some 1000 } ∧
    ((authorised { demoAuthority .revoking with echoLimit := some 1000, revokeSends := 2 }).train? 118).bind (·.authority) =
      some { demoAuthority .revoking with echoLimit := some 1000, revokeSends := 2 } := by decide

theorem test_authorityLapse : (((after (.authorityLapse 118) (authorised (demoAuthority .issued))).train? 118).bind
    (·.authority)).map (·.state) = some .revoking := by decide +kernel

theorem test_targetExpiry :
    let t := after (.targetExpiry 118)
      { waiting with trk.trains := [{ demoTrain 118 .inService 10 with call := some (demoCall .dwelling) }] }
    ((t.train? 118).bind (·.call)).map (·.phase) = some .authorised ∧ t.tpc.grants.map (·.tokens) = [1] := by decide +kernel

/-! ### Traction power -/

/-- The test line with the records of its first section changed. -/
def sectioned (f : SecRec → SecRec) : State := { demo with tpc.sections := [f (demoSection 1 .dead), demoSection 2 .dead] }

/-- The test line with one permit on its second section. -/
def permitted (st : PermitState) : State := { demo with tpc.permits := [demoPermit 15 255 2 st] }

theorem witness_energise :
    (due (.energise 1 (some 24)) (ask "1 ENERGISE section=24" demo) ∧ ¬ given 0 23 (some 24)) ∧
    (due (.energise 1 (some 23)) (ask "1 ENERGISE section=23" demo) ∧ demo.sec? 23 = none) ∧
    (due (.energise 1 (some 2)) (ask "1 ENERGISE section=2" surveyed) ∧ surveyed.sec? 2 ≠ none ∧ surveyed.lmc.mode = .survey) ∧
    (due (.energise 1 (some 2)) (ask "1 ENERGISE section=2" (permitted .issued)) ∧ (permitted .issued).permitOpen 2 = true) ∧
    (let s := ask "1 ENERGISE section=1" (sectioned fun r => { r with state := .held })
     due (.energise 1 (some 1)) s ∧ s.permitOpen 1 = false ∧ s.secIs 1 .held = true) ∧
    (due (.energise 1 (some 1)) (ask "1 ENERGISE section=1" demo) ∧ demo.sec? 1 = some (demoSection 1 .energised)) ∧
    (due (.energise 1 (some 2)) (ask "1 ENERGISE section=2" demo) ∧ demo.sec? 2 = some (demoSection 2 .dead) ∧
      demo.permitOpen 2 = false ∧ demo.lmc.mode ≠ .survey) ∧
    due (.energiseAll 1) (ask "1 ENERGISE_ALL" surveyed) ∧ due (.energiseAll 1) (ask "1 ENERGISE_ALL" demo) := by
  simp only [given_iff]; decide +kernel

theorem test_energise : let t := after (.energise 1 (some 2)) (ask "1 ENERGISE section=2" demo)
    t.secState? 2 = some .energising ∧ t.tpc.queue.map (fun c => (c.breaker, c.action)) = [(6, .closing)] := by decide +kernel

theorem witness_deenergise :
    (due (.deenergise 1 (some 24)) (ask "1 DEENERGISE section=24" demo) ∧ ¬ given 0 23 (some 24)) ∧
    (due (.deenergise 1 (some 23)) (ask "1 DEENERGISE section=23" demo) ∧ demo.sec? 23 = none) ∧
    (let s := ask "1 DEENERGISE section=1" (sectioned fun r => { r with state := .held })
     due (.deenergise 1 (some 1)) s ∧ s.secIs 1 .held = true) ∧
    (due (.deenergise 1 (some 1)) (ask "1 DEENERGISE section=1" demo) ∧ demo.sec? 1 = some (demoSection 1 .energised)) := by
  simp only [given_iff]; decide +kernel

theorem test_deenergise : let t := after (.deenergise 1 (some 1)) (ask "1 DEENERGISE section=1" demo)
    t.secState? 1 = some .dead ∧ t.tpc.queue.map (fun c => (c.breaker, c.action, c.phase)) = [(5, .opening, .selecting)] := by
  decide +kernel

theorem witness_breakerCommand :
    (due (.breakerCommand 1 (some 48) (some .opening)) (ask "1 BREAKER_COMMAND breaker=48 action=OPEN" demo) ∧ ¬ given 0 47 (some 48)) ∧
    due (.breakerCommand 1 (some 47) none) (ask "1 BREAKER_COMMAND breaker=47" demo) ∧
    (due (.breakerCommand 1 (some 47) (some .opening)) (ask "1 BREAKER_COMMAND breaker=47 action=OPEN" demo) ∧ demo.brk? 47 = none) ∧
    (let s := ask "1 BREAKER_COMMAND breaker=5 action=OPEN"
       { demo with tpc.breakers := [⟨5, .closed, none, none, none, some .operator⟩] }
     due (.breakerCommand 1 (some 5) (some .opening)) s ∧ s.openComing 5 = true) ∧
    (due (.breakerCommand 1 (some 5) (some .opening)) (ask "1 BREAKER_COMMAND breaker=5 action=OPEN" demo) ∧
      demo.openComing 5 = false ∧ demo.brk? 5 ≠ none) ∧
    due (.breakerCommand 1 (some 5) (some .closing)) (ask "1 BREAKER_COMMAND breaker=5 action=CLOSE" surveyed) ∧
    (due (.breakerCommand 1 (some 6) (some .closing)) (ask "1 BREAKER_COMMAND breaker=6 action=CLOSE" (permitted .issued)) ∧
      ∃ x ∈ (permitted .issued).desc.sectionsFed 6, (permitted .issued).permitOpen x = true) ∧
    (let s := ask "1 BREAKER_COMMAND breaker=5 action=CLOSE" (sectioned fun r => { r with state := .held })
     due (.breakerCommand 1 (some 5) (some .closing)) s ∧ ∃ x ∈ s.desc.sectionsFed 5, s.secIs x .held = true) := by
  simp only [given_iff]; decide +kernel

/-- The test line with both sections ENERGISED, the tie between them OPEN. -/
def tied (queue : List Cmd) : State :=
  { demo with tpc.sections := [demoSection 1 .energised, demoSection 2 .energised], tpc.queue := queue }

/-- A command of a breaker. -/
def demoCmd (b : Nat) (phase : CmdPhase) (window : Option Nat) : Cmd :=
  { breaker := b, unit := 300, action := .opening, origin := .operator, phase := phase, code := 255, window := window }

theorem witness_breakerClose :
    (∀ q ∈ [[], List.replicate 16 (demoCmd 5 .queued none)],
      let s := ask "1 BREAKER_COMMAND breaker=7 action=CLOSE" (tied q)
      due (.breakerCommand 1 (some 7) (some .closing)) s ∧ s.lmc.mode ≠ .survey ∧ (∀ x ∈ s.desc.sectionsFed 7, s.permitOpen x = false) ∧
        (∀ x ∈ s.desc.sectionsFed 7, s.secIs x .energised = true) ∧ s.brkState? 7 = some .opened ∧ s.command? 7 = none) ∧
    (tied []).tpc.queue.length < 16 ∧ 16 ≤ (tied (List.replicate 16 (demoCmd 5 .queued none))).tpc.queue.length := by decide +kernel

theorem witness_holdRelease :
    due (.holdRelease 1 none) (ask "1 HOLD_RELEASE" demo) ∧ due (.holdRelease 1 (some (.one 24))) (ask "1 HOLD_RELEASE section=24" demo) ∧
    (due (.holdRelease 1 (some (.one 23))) (ask "1 HOLD_RELEASE section=23" demo) ∧ demo.sec? 23 = none) ∧
    (due (.holdRelease 1 (some (.one 2))) (ask "1 HOLD_RELEASE section=2" (permitted .issued)) ∧ (permitted .issued).permitOpen 2 = true) ∧
    (due (.holdRelease 1 (some (.one 2))) (ask "1 HOLD_RELEASE section=2" demo) ∧ demo.sec? 2 = some (demoSection 2 .dead)) ∧
    (let s := ask "1 HOLD_RELEASE section=1" (sectioned fun r => { r with state := .held })
     due (.holdRelease 1 (some (.one 1))) s ∧ s.secIs 1 .held = true ∧ s.permitOpen 1 = false) ∧
    due (.holdRelease 1 (some .all)) (ask "1 HOLD_RELEASE section=ALL" demo) := by decide +kernel

theorem witness_powerTimers :
    demo.grant? 118 = none ∧ demo.sec? 23 = none ∧ demo.isolation? 1 = none ∧
    ({ demo with tpc.grants := [⟨118, 1, 1, 1000⟩] }).grant? 118 = some ⟨118, 1, 1, 1000⟩ ∧ ¬ demo.lmc.count < 1000 ∧
    ({ demo with lmc.count := 999, tpc.grants := [⟨118, 1, 1, 1000⟩] }).lmc.count < 1000 ∧
    ((sectioned fun r => { r with window := some 1000 }).sec? 1).map (·.window) = some (some 1000) ∧
    ((sectioned fun r => { r with span := some 1000 }).sec? 1).map (·.span) = some (some 1000) ∧
    (let s := sectioned fun r => { r with state := .tripped, reclose := some 1000 }
     (s.sec? 1).map (fun r => (r.state, r.lockout, r.seq, r.reclose)) = some (.tripped, false, none, some 1000) ∧
       (s.modSec 1 fun q => { q with reclose := none }).recloseAllowed 1 = true) ∧
    ((sectioned fun r => { r with reclose := some 1000 }).sec? 1).map (·.state) = some .dead ∧
    ((sectioned fun r => { r with seq := some ⟨.operator, some (.confirm 1000), []⟩ }).sec? 1).map (·.seq) =
      some (some ⟨.operator, some (.confirm 1000), []⟩) ∧
    (∀ v ∈ [Voltage.present, .absent],
      let s := { sectioned fun r => { r with state := .isolating, voltage := v } with tpc.isolations := [⟨1, .confirming 1000⟩] }
      s.isolation? 1 = some ⟨1, .confirming 1000⟩ ∧ s.voltage 1 = v) ∧
    ({ demo with tpc.queue := [demoCmd 5 .selecting (some 1000)] }).tpc.queue = [demoCmd 5 .selecting (some 1000)] ∧
    ({ demo with tpc.breakers := [⟨5, .moving .closed 1000 .operator, none, none, none, none⟩] }).brkState? 5 =
      some (.moving .closed 1000 .operator) := by decide +kernel

theorem test_operateLimit : let t := after (.operateLimitExpiry 5)
                              { demo with tpc.breakers := [⟨5, .moving .closed 1000 .operator, none, none, none, none⟩] }
    t.brkState? 5 = some .unknown ∧ (t.brk? 5).map (·.outcome) = some (some .noResult) := by decide +kernel

/-! ### Permits -/

theorem witness_permitRequest :
    (due (.permitRequest 1 (some 24) (some 1)) (ask "1 PERMIT_REQUEST section=24 holder_code=1" demo) ∧ ¬ given 0 23 (some 24)) ∧
    (due (.permitRequest 1 (some 23) (some 65536)) (ask "1 PERMIT_REQUEST section=23 holder_code=65536" demo) ∧ ¬ given 1 65535 (some 65536)) ∧
    (due (.permitRequest 1 (some 23) (some 65535)) (ask "1 PERMIT_REQUEST section=23 holder_code=65535" demo) ∧ demo.sec? 23 = none) ∧
    due (.permitRequest 1 (some 2) (some 1)) (ask "1 PERMIT_REQUEST section=2 holder_code=1" surveyed) ∧
    (let s := ask "1 PERMIT_REQUEST section=1 holder_code=1" (sectioned fun r => { r with state := .unknown })
     due (.permitRequest 1 (some 1) (some 1)) s ∧ s.secIs 1 .unknown = true) ∧
    (let s := ask "1 PERMIT_REQUEST section=2 holder_code=1"
       { demo with tpc.permits := (List.range 4).map fun i => demoPermit i (i + 1) 2 .issued }
     due (.permitRequest 1 (some 2) (some 1)) s ∧ 4 ≤ (s.openPermits 2).length) ∧
    (let s := ask "1 PERMIT_REQUEST section=2 holder_code=1"
       { demo with tpc.permits := (List.range 16).map fun i => demoPermit i (i + 1) 1 .issued }
     due (.permitRequest 1 (some 2) (some 1)) s ∧ (s.openPermits 2).length < 4 ∧ 16 ≤ s.allOpenPermits.length) ∧
    (due (.permitRequest 1 (some 2) (some 1)) (ask "1 PERMIT_REQUEST section=2 holder_code=1" demo) ∧ demo.blockedSegments 2 ≠ []) ∧
    (let s := ask "1 PERMIT_REQUEST section=2 holder_code=65535" waiting
     due (.permitRequest 1 (some 2) (some 65535)) s ∧ s.blockedSegments 2 = [] ∧ s.permitPlace.isSome ∧ (s.openPermits 2).length < 4 ∧
       s.allOpenPermits.length < 16) := by simp only [given_iff]; decide +kernel

theorem test_permitRequest :
    (after (.permitRequest 1 (some 2) (some 65535)) (ask "1 PERMIT_REQUEST section=2 holder_code=65535" waiting)).tpc.permits.map
      (fun p => (p.place, p.id, p.holder)) = [(0, 1, 65535)] := by decide +kernel

theorem witness_permitEnds :
    (due (.permitCancel 1 (some 256)) (ask "1 PERMIT_CANCEL id=256" demo) ∧ ¬ given 1 255 (some 256)) ∧
    (due (.permitCancel 1 (some 255)) (ask "1 PERMIT_CANCEL id=255" demo) ∧ demo.permit? 255 = none) ∧
    (due (.permitCancel 1 (some 255)) (ask "1 PERMIT_CANCEL id=255" (permitted .issued)) ∧
      (permitted .issued).permit? 255 = some (demoPermit 15 255 2 .issued)) ∧
    (due (.permitCancel 1 (some 255)) (ask "1 PERMIT_CANCEL id=255" (permitted .requested)) ∧
      (permitted .requested).permit? 255 = some (demoPermit 15 255 2 .requested)) ∧
    (due (.permitSurrender 1 (some 0) (some 1)) (ask "1 PERMIT_SURRENDER id=0 holder_code=1" demo) ∧ ¬ given 1 255 (some 0)) ∧
    (due (.permitSurrender 1 (some 255) (some 0)) (ask "1 PERMIT_SURRENDER id=255 holder_code=0" demo) ∧ given 1 255 (some 255) ∧
      ¬ given 1 65535 (some 0)) ∧
    due (.permitSurrender 1 (some 255) (some 1)) (ask "1 PERMIT_SURRENDER id=255 holder_code=1" demo) ∧
    (due (.permitSurrender 1 (some 255) (some 1)) (ask "1 PERMIT_SURRENDER id=255 holder_code=1" (permitted .issued)) ∧
      1 ≠ (demoPermit 15 255 2 .issued).holder) ∧
    due (.permitSurrender 1 (some 255) (some 65535)) (ask "1 PERMIT_SURRENDER id=255 holder_code=65535" (permitted .requested)) ∧
    due (.permitSurrender 1 (some 255) (some 65535)) (ask "1 PERMIT_SURRENDER id=255 holder_code=65535" (permitted .issued)) := by
  simp only [given_iff]; decide +kernel

theorem test_permitSurrender :
    (after (.permitSurrender 1 (some 255) (some 65535)) (ask "1 PERMIT_SURRENDER id=255 holder_code=65535" (permitted .issued))).lst.inFlight =
      some (.permitErase 15) := by decide +kernel

/-! ### Incidents -/

/-- The fields of RESPONSE_SET that give an entry. -/
def responseFields (c : IncClass) (v : Nat) (e : Response) : ResponseFields :=
  { cls := some c, severity := some v, upstream := some e.upstream, inPlace := some e.inPlace, deenergise := some e.deenergise,
    template := some (e.template.elim .none .one), priority := some e.priority, scope := some e.scope, escalate := some e.escalate,
    allClear := some e.allClear }

/-- The line of RESPONSE_SET that gives the widest entry. -/
def responseText : String :=
  "1 RESPONSE_SET class=OPERATOR severity=4 hold-upstream=3 hold-in-place=NO de-energise=NO template=255 priority=INFORMATION " ++
  "scope_rule=LOCATION escalate=NO all-clear=NO"

theorem witness_responseSet :
    due (.responseSet 1 {}) (ask "1 RESPONSE_SET" demo) ∧
    (due (.responseSet 1 { cls := some .operator, severity := some 5 }) (ask "1 RESPONSE_SET class=OPERATOR severity=5" demo) ∧
      ¬ given 1 4 (some 5)) ∧
    (∀ l ∈ [[], List.replicate 4 StoreOp.indexWrite],
      due (.responseSet 1 (responseFields .operator 4 { Response.empty with upstream := 3, template := some 255 }))
        (ask responseText { demo with lst.otherList := l })) ∧ fits 0 255 (some 255) := by
  simp only [given_iff, fits_iff]; decide +kernel

theorem witness_incidentRaise :
    due (.incidentRaise 1 none (some 1) none none) (ask "1 INCIDENT_RAISE severity=1" demo) ∧
    (due (.incidentRaise 1 (some .operator) (some 0) none none) (ask "1 INCIDENT_RAISE class=OPERATOR severity=0" demo) ∧
      ¬ given 1 4 (some 0)) ∧
    (due (.incidentRaise 1 (some .operator) (some 4) (some (.segment 127)) none)
        (ask "1 INCIDENT_RAISE class=OPERATOR severity=4 location=SEGMENT(127)" demo) ∧ locationInRange (.segment 127) = true ∧
      locationKnown demo.desc (.segment 127) = false) ∧
    (due (.incidentRaise 1 (some .operator) (some 1) (some .line) (some 65535))
        (ask "1 INCIDENT_RAISE class=OPERATOR severity=1 location=LINE note_code=65535" demo) ∧ locationInRange .line = true ∧
      locationKnown demo.desc .line = true ∧ fits 1 65535 (some 65535)) := by simp only [given_iff, fits_iff]; decide +kernel

theorem test_incidentRaise :
    ((after (.incidentRaise 1 (some .operator) (some 1) (some .line) (some 65535))
      (ask "1 INCIDENT_RAISE class=OPERATOR severity=1 location=LINE note_code=65535" demo)).inm.incidents.getLast?.map
        fun i => (i.id, i.cls, i.phase, i.note)) = some (3, .operator, .raised, some 65535) := by decide +kernel

theorem witness_raises :
    demo.openIncident? .obstruction (.segment 11) = some (demoIncident 1 .raised 1) ∧ demo.openIncident? .operator .line = none ∧
    demo.inm.incidents.length < 32 ∧
    (let s := { demo with inm.incidents := List.replicate 32 (demoIncident 1 .raised 1) }
     s.openIncident? .operator .line = none ∧ 32 ≤ s.inm.incidents.length ∧ ∀ i ∈ s.inm.incidents, i.phase ≠ .closed) := by decide

theorem witness_incidentSteps :
    (due (.incidentAck 1 (some 0) none) (ask "1 INCIDENT_ACK id=0" demo) ∧ ¬ given 1 65535 (some 0)) ∧
    (due (.incidentAck 1 (some 9) none) (ask "1 INCIDENT_ACK id=9" demo) ∧ demo.incident? 9 = none) ∧
    (due (.incidentAck 1 (some 65535) none) (ask "1 INCIDENT_ACK id=65535" demo) ∧
      demo.incident? 65535 = some (demoIncident 65535 .closed 1)) ∧
    (due (.incidentAck 1 (some 1) (some 65535)) (ask "1 INCIDENT_ACK id=1 note_code=65535" demo) ∧ fits 1 65535 (some 65535) ∧
      demo.incident? 1 = some (demoIncident 1 .raised 1)) ∧
    due (.incidentContain 1 (some 65536) none) (ask "1 INCIDENT_CONTAIN id=65536" demo) ∧
    due (.incidentContain 1 (some 9) none) (ask "1 INCIDENT_CONTAIN id=9" demo) ∧
    due (.incidentContain 1 (some 1) none) (ask "1 INCIDENT_CONTAIN id=1" demo) ∧
    (due (.incidentContain 1 (some 2) (some 1)) (ask "1 INCIDENT_CONTAIN id=2 note_code=1" demo) ∧
      demo.incident? 2 = some (demoIncident 2 .acknowledged 1)) ∧
    due (.incidentClose 1 (some 0) none) (ask "1 INCIDENT_CLOSE id=0" demo) ∧
      due (.incidentClose 1 (some 9) none) (ask "1 INCIDENT_CLOSE id=9" demo) ∧
    due (.incidentClose 1 (some 65535) none) (ask "1 INCIDENT_CLOSE id=65535" demo) ∧
    due (.incidentClose 1 (some 1) none) (ask "1 INCIDENT_CLOSE id=1" demo) := by simp only [given_iff, fits_iff]; decide +kernel

theorem witness_incidentRelease :
    due (.incidentRelease 1 (some 0) none none) (ask "1 INCIDENT_RELEASE id=0" demo) ∧
    (due (.incidentRelease 1 (some 65535) none none) (ask "1 INCIDENT_RELEASE id=65535" demo) ∧ given 1 65535 (some 65535)) ∧
    (due (.incidentRelease 1 (some 1) (some .deenergise) (some 24)) (ask "1 INCIDENT_RELEASE id=1 action=DEENERGISE index=24" demo) ∧
      ¬ given 0 23 (some 24)) ∧
    (due (.incidentRelease 1 (some 1) (some .announce) none) (ask "1 INCIDENT_RELEASE id=1 action=ANNOUNCE" demo) ∧
      ¬ given 1 255 none) ∧
    due (.incidentRelease 1 (some 9) (some .holdTrain) (some 999)) (ask "1 INCIDENT_RELEASE id=9 action=HOLD_TRAIN index=999" demo) ∧
    due (.incidentRelease 1 (some 65535) (some .holdTrain) (some 118))
      (ask "1 INCIDENT_RELEASE id=65535 action=HOLD_TRAIN index=118" demo) ∧
    due (.incidentRelease 1 (some 1) (some .holdTrain) (some 118)) (ask "1 INCIDENT_RELEASE id=1 action=HOLD_TRAIN index=118" demo) ∧
    (releaseLink .holdTrain (some 118)).toOption = some (.holdTrain 118) ∧
    (due (.incidentRetire 1 (some 65536)) (ask "1 INCIDENT_RETIRE id=65536" demo) ∧ ¬ given 1 65535 (some 65536)) ∧
    due (.incidentRetire 1 (some 9)) (ask "1 INCIDENT_RETIRE id=9" demo) ∧
      due (.incidentRetire 1 (some 1)) (ask "1 INCIDENT_RETIRE id=1" demo) ∧
    due (.incidentRetire 1 (some 65535)) (ask "1 INCIDENT_RETIRE id=65535" demo) := by simp only [given_iff]; decide +kernel

theorem test_incidentClose : let t := after (.incidentClose 1 (some 1) none) (ask "1 INCIDENT_CLOSE id=1" demo)
    (t.incident? 1).map (fun i => (i.phase, i.links, i.cause)) = some (.closed, [], some .operator) := by decide +kernel

theorem witness_escalationExpiry :
    demo.incident? 9 = none ∧ demo.incident? 2 = some (demoIncident 2 .acknowledged 1) ∧
      demo.incident? 1 = some (demoIncident 1 .raised 1) ∧
    (demoIncident 1 .raised 1).escalation = some 1000 ∧ 1000 ≤ demo.lmc.count ∧
    ({ demo with inm.incidents := [demoIncident 1 .raised 4] }).incident? 1 = some (demoIncident 1 .raised 4) ∧
    ({ demo with inm.incidents := [demoIncident 1 .raised 3] }).incident? 1 = some (demoIncident 1 .raised 3) ∧
    ({ demo with lmc.count := 999 }).lmc.count < 1000 := by decide

theorem test_escalationExpiry : ((after (.escalationExpiry 1) demo).incident? 1).map (fun i => (i.severity, i.escalation)) =
    some (2, some 1060) := by decide +kernel

/-! ### Announcements -/

/-- The fields of ANNOUNCE that the test asks with. -/
def postFields (template : Nat) (scope : ScopeArg) : PostFields :=
  { template := some template, priority := some .service, scope := some scope, rep := some (.times 1), display := some false }

/-- The line of ANNOUNCE with these fields. -/
def postText (template scope : String) : String :=
  "1 ANNOUNCE template=" ++ template ++ " priority=SERVICE scope=" ++ scope ++ " repeat=1 display_flag=NO"

/-- The test line with one template loaded. -/
def spoken (stations : List Station) (entries : List Entry) : State :=
  { demo with lmc.working.stations := stations, ans.templates := [⟨255, [.phrase 4095], false⟩], ans.entries := entries }

/-- The outcome of a post is a refusal for want of a station, of room, or an entry made. -/
def outcomeOf (f : PostFields) (s : State) : Option PostAnswer := ((postGiven f s).toOption).map fun p => (postEntry p s).1

theorem witness_announce :
    (due (.announce 1 {}) (ask "1 ANNOUNCE" demo) ∧ ∃ e, postGiven {} demo = .error e) ∧
    (let s := spoken [] []
     due (.announce 1 (postFields 255 .all)) (ask (postText "255" "ALL") s) ∧ outcomeOf (postFields 255 .all) s = some .noStation) ∧
    (let s := spoken demoLine.stations ((List.range 48).map fun i => demoEntry (i + 1) (some .expired))
     due (.announce 1 (postFields 255 .all)) (ask (postText "255" "ALL") s) ∧ outcomeOf (postFields 255 .all) s = some .full) ∧
    (let s := spoken demoLine.stations [demoEntry 1 none]
     due (.announce 1 (postFields 255 (.stations [2]))) (ask (postText "255" "2") s) ∧
       outcomeOf (postFields 255 (.stations [2])) s = some (.made 2 none)) := by
  refine ⟨⟨by decide +kernel, _, rfl⟩, ?_, ?_, ?_⟩ <;> decide +kernel

theorem witness_templateLoad :
    (due (.templateLoad 1 (some 256) none) (ask "1 TEMPLATE_LOAD index=256" demo) ∧ ¬ given 0 255 (some 256)) ∧
    (due (.templateLoad 1 (some 255) none) (ask "1 TEMPLATE_LOAD index=255" demo) ∧ given 0 255 (some 255)) ∧
    due (.templateLoad 1 (some 255) (some [])) (ask "1 TEMPLATE_LOAD index=255 elements=-" demo) ∧
    (due (.templateLoad 1 (some 0) (some [.phrase 4096])) (ask "1 TEMPLATE_LOAD index=0 elements=PHRASE(4096)" demo) ∧
      ∃ n, .phrase n ∈ [Element.phrase 4096] ∧ 4095 < n) ∧
    due (.templateLoad 1 (some 0) (some (List.replicate 13 (.phrase 0))))
      (ask ("1 TEMPLATE_LOAD index=0 elements=PHRASE(0)" ++ ",PHRASE(0),PHRASE(0),PHRASE(0),PHRASE(0),PHRASE(0),PHRASE(0)" ++
        ",PHRASE(0),PHRASE(0),PHRASE(0),PHRASE(0),PHRASE(0),PHRASE(0)") demo) ∧
    (checkElements [.phrase 4095, .slot .minutes]).toOption = some () ∧
    ∀ l ∈ [[], List.replicate 4 StoreOp.indexWrite],
      due (.templateLoad 1 (some 255) (some [.phrase 4095, .slot .minutes]))
        (ask "1 TEMPLATE_LOAD index=255 elements=PHRASE(4095),SLOT(MINUTES)" { demo with lst.otherList := l }) := by
  simp only [given_iff]
  exact ⟨by decide +kernel, by decide +kernel, by decide +kernel, ⟨by decide +kernel, 4096, by decide, by decide⟩, by decide +kernel,
    by decide, by decide +kernel⟩

theorem witness_withdraw :
    (due (.withdraw 1 (some 256)) (ask "1 WITHDRAW id=256" demo) ∧ ¬ given 1 255 (some 256)) ∧
    (due (.withdraw 1 (some 2)) (ask "1 WITHDRAW id=2" demo) ∧ demo.entry? 2 = none) ∧
    (due (.withdraw 1 (some 255)) (ask "1 WITHDRAW id=255" demo) ∧ demo.entry? 255 = some (demoEntry 255 (some .expired))) ∧
    (due (.withdraw 1 (some 1)) (ask "1 WITHDRAW id=1" demo) ∧ demo.entry? 1 = some (demoEntry 1 none)) := by
  simp only [given_iff]; decide +kernel

theorem test_withdraw : (after (.withdraw 1 (some 1)) (ask "1 WITHDRAW id=1" demo)).entry? 1 = none := by decide +kernel

/-- The first zone in a state. -/
def zoned (z : ZoneState) : State := { demo with ans.zones := [⟨1, z, none⟩] }

theorem witness_announcementTimers :
    demo.entry? 2 = none ∧ demo.entry? 1 = some (demoEntry 1 none) ∧ demo.entry? 255 = some (demoEntry 255 (some .expired)) ∧
    (demoEntry 1 none).expiry = some 1000 ∧ 1000 ≤ demo.lmc.count ∧ ¬ 1000 ≤ ({ demo with lmc.count := 999 }).lmc.count ∧
    (∃ d ∈ (demoEntry 1 none).deliveries, d.station = 1 ∧ d.awaiting = true ∧ d.state = .pending ∧ d.eligible ≤ demo.lmc.count) ∧
    demo.zoneState? 1 = some .idle ∧ (zoned (.playing 1 false true 1000)).zoneState? 1 = some (.playing 1 false true 1000) ∧
    (zoned (.stopping 1 true none 1000)).zoneState? 1 = some (.stopping 1 true none 1000) ∧
    demo.display? 1 = none ∧ demo.display? 2 = some ⟨2, none, none⟩ ∧ demo.display? 4 = some ⟨4, none, some 1000⟩ := by decide

theorem test_deliveryEligible :
    (after (.deliveryEligible 1 1) (spoken demoLine.stations [{ demoEntry 1 none with template := 255 }])).zoneState? 1 =
      some (.playing 1 false false 1180) := by decide +kernel

/-! ### Line modes -/

/-- The test line in NIGHT_LIVE with nothing held. -/
def night : State := { demo with lmc.mode := .nightLive }

theorem witness_modeRequest :
    due (.modeRequest 1 none (some true)) (ask "1 MODE_REQUEST escalate=YES" demo) ∧
    due (.modeRequest 1 (some .traffic) none) (ask "1 MODE_REQUEST target=TRAFFIC" surveyed) ∧
    (due (.modeRequest 1 (some .traffic) (some true)) (ask "1 MODE_REQUEST target=TRAFFIC escalate=YES" demo) ∧
      demo.lmc.mode = .traffic) ∧
    (due (.modeRequest 1 (some .nightHeld) none) (ask "1 MODE_REQUEST target=NIGHT_HELD" demo) ∧
      (checkMode .nightHeld demo).toOption = none) ∧
    (due (.modeRequest 1 (some .reduced) none) (ask "1 MODE_REQUEST target=REDUCED" demo) ∧
      (checkMode .reduced demo).toOption = some () ∧ demo.demoted .reduced ≠ demo.lmc.mode) := by decide +kernel

theorem witness_modeRequest_demoted :
    let s := ask "1 MODE_REQUEST target=NIGHT_HELD" { night with tpc.permits := [demoPermit 0 1 1 .issued] }
    due (.modeRequest 1 (some .nightHeld) none) s ∧ (checkMode .nightHeld s).toOption = some () ∧ s.demoted .nightHeld = s.lmc.mode := by
  decide +kernel

theorem test_modeRequest :
    (after (.modeRequest 1 (some .reduced) none) (ask "1 MODE_REQUEST target=REDUCED" demo)).lmc.mode = .reduced := by decide +kernel

theorem witness_surveyEnd :
    due (.surveyEnd 1 none) (ask "1 SURVEY_END" surveyed) ∧
    due (.surveyEnd 1 (some .traffic)) (ask "1 SURVEY_END target=TRAFFIC" demo) ∧
    (due (.surveyEnd 1 (some .traffic)) (ask "1 SURVEY_END target=TRAFFIC" { surveyed with lmc.timeSet := false }) ∧
      (checkSurveyEnd .traffic { surveyed with lmc.timeSet := false }).toOption = none) ∧
    (due (.surveyEnd 1 (some .traffic)) (ask "1 SURVEY_END target=TRAFFIC" surveyed) ∧
      (checkSurveyEnd .traffic surveyed).toOption = some ()) := by decide +kernel

theorem test_surveyEnd :
    (after (.surveyEnd 1 (some .traffic)) (ask "1 SURVEY_END target=TRAFFIC" surveyed)).lmc.mode = .traffic := by decide +kernel

theorem witness_timers : isExpiry (.stallExpiry 118) = true ∧ ∃ t, exec (.stallExpiry 118) demo = .next t := ⟨rfl, _, rfl⟩

/-! ### The laws of the device -/

/-- A PLAY frame of some phrases. -/
def playFrame (n : Nat) : OutFrame :=
  { demoFrame 0 false false false with dest := 400, body := .play 1 false false (List.replicate n 4095) }

/-- A line at work under every law: a train with an ISSUED authority and its grant, a train held for an open incident, an announcement
of that incident PLAYING, a section ISOLATED under an ISSUED permit, and a CLOSE in the queue. -/
def lawful : State :=
  { demo with
    pending := [.secondTick]
    lst.permits := [Safety.recordOf (demoPermit 15 255 2 .issued)]
    wlc.outQueue := [playFrame 12]
    trk.segs := [⟨10, .occupied 118, none⟩, ⟨11, .clear, none⟩, ⟨12, .occupied 301, none⟩, ⟨13, .occupied 301, none⟩]
    trk.trains := [{ demoTrain 118 .inService 10 with authority := some (demoAuthority .issued), trip := some 301 },
                   { demoTrain 301 .stabled 13 with tail := some 12, holds := [.incident 1] }]
    tpc.sections := [demoSection 1 .energised, { demoSection 2 .isolated with voltage := .absent, budget := 0 }]
    tpc.grants := [⟨118, 1, 1, 1010⟩]
    tpc.permits := [demoPermit 15 255 2 .issued]
    tpc.queue := [{ breaker := 5, unit := 300, action := .closing, origin := .operator, phase := .queued, code := 0, window := none }]
    inm.incidents := [demoIncident 1 .raised 1, demoIncident 65535 .closed 1]
    ans.templates := [⟨255, [.phrase 4095], false⟩]
    ans.entries := [{ demoEntry 1 none with origin := .incident 1, deliveries := [{ demoDelivery 1 with state := .playing }] }]
    ans.zones := [⟨1, .playing 1 false true 1100, none⟩, ⟨2, .unreachable, none⟩] }

theorem lawful_follows : ∃ t, follows lawful t := ⟨_, rfl⟩

theorem witness_sound : Sound lawful := by
  refine ⟨?_, ?_⟩
  · constructor <;> first | (unfold rising; decide) | skip
    intro d hd
    have : d = Description.empty ∨ d = demoLine := by
      have h : heldDescriptions lawful = [Description.empty, demoLine, demoLine] := rfl
      simpa [h] using hd
    rcases this with rfl | rfl <;> constructor <;> (unfold rising; decide)
  · constructor <;> decide

theorem witness_positionLawKept : PositionLaw lawful := by
  refine ⟨rfl, fun g n => ?_⟩
  constructor
  · intro h
    by_cases h0 : g = 10
    · subst h0; cases h; exact ⟨_, rfl, nofun, .inl rfl⟩
    by_cases h1 : g = 11
    · subst h1; cases h
    by_cases h2 : g = 12
    · subst h2; cases h; exact ⟨_, rfl, nofun, .inr rfl⟩
    by_cases h3 : g = 13
    · subst h3; cases h; exact ⟨_, rfl, nofun, .inl rfl⟩
    · exfalso
      simp [lawful, demo, State.occ, State.seg?, Ne.symm h0, Ne.symm h1, Ne.symm h2, Ne.symm h3] at h
  · rintro ⟨t, ht, -, hp⟩
    have hm := List.mem_of_find?_eq_some ht
    have hn : t.number = n := by simpa using List.find?_some ht
    simp only [lawful, List.mem_cons, List.not_mem_nil, or_false] at hm
    rcases hm with rfl | rfl
    · rcases hp with hp | hp
      · cases hp; cases hn; rfl
      · cases hp
    · rcases hp with hp | hp
      · cases hp; cases hn; rfl
      · cases hp; cases hn; rfl

theorem witness_authorityLawKept : AuthorityLaw lawful := by
  intro t ht a ha hs
  simp only [lawful, List.mem_cons, List.not_mem_nil, or_false] at ht
  rcases ht with rfl | rfl
  · cases ha; exact ⟨rfl, rfl, rfl, 1, rfl, _, .head _, rfl, rfl⟩
  · cases ha

theorem witness_slotLawKept : SlotLaw lawful where
  active := by intro i h; cases h; rfl
  scheduled := nofun
  single := by
    intro i j x y hx hy h1 h2
    have f : ∀ k z, lawful.slot? k = some z → z.state = .writing ∨ z.state = .committing → k = 1 := by
      intro k z hz h
      match k with
      | 0 => cases hz; rcases h with h | h <;> cases h
      | 1 => rfl
      | 2 => cases hz; rcases h with h | h <;> cases h
      | 3 => cases hz; rcases h with h | h <;> cases h
      | k + 4 => cases hz
    rw [f i x hx h1, f j y hy h2]
  waiting := nofun
  inFlight := nofun
  once := fun i => by simp [lawful, demo, State.reset, Lst.blank]

theorem witness_tokensKept : Keyed lawful ∧ BudgetLaw lawful ∧
    (requestGrant 118 1 1 25 waiting).1 = true ∧ (requestGrant 118 2 1 25 waiting).1 = false := by
  refine ⟨witness_sound.keyed, ⟨by decide, ?_⟩, by decide +kernel, by decide +kernel⟩
  intro b hb hs
  simp only [lawful, demo, List.mem_cons, List.not_mem_nil, or_false] at hb
  rcases hb with rfl | rfl | rfl
  · exact ⟨_, rfl, rfl, rfl⟩
  · cases hs
  · cases hs

theorem witness_permitLawKept : PermitLaw lawful where
  places := by unfold rising; decide
  range := by decide
  ids := by decide
  marks := by decide
  records := by unfold rising; decide
  stored := by decide
  owned := by decide
  waiting := by
    intro p hp o ho
    simp only [lawful, List.mem_cons, List.not_mem_nil, or_false] at hp
    subst hp; cases ho
  operations := nofun
  once := by decide
  four := by
    intro x
    exact Nat.le_trans (List.length_filter_le _ _) (by decide)
  session := nofun
  committing := nofun
  single := by decide

theorem witness_sectionLawKept : SectionLaw lawful where
  underPermit := by decide
  isolated := by decide
  isolations := by unfold rising; decide
  works := by decide
  isolates := by decide
  waits := by
    intro r hr e he
    simp only [lawful, List.mem_cons, List.not_mem_nil, or_false] at hr
    rcases hr with rfl | rfl <;> cases he
  runs := by
    intro r hr e he
    simp only [lawful, List.mem_cons, List.not_mem_nil, or_false] at hr
    rcases hr with rfl | rfl <;> cases he
  two := by decide
  closes := by decide

theorem witness_incidentLawKept : IncidentLaw lawful where
  ids := by decide
  single := by decide
  trains := by
    intro t ht k hk
    simp only [lawful, List.mem_cons, List.not_mem_nil, or_false] at ht
    rcases ht with rfl | rfl
    · cases hk
    · simp only [List.mem_cons, List.not_mem_nil, or_false] at hk
      cases hk; exact ⟨_, .head _, rfl, nofun⟩
  platforms := by
    intro p hp k hk
    simp only [lawful, demo, List.mem_cons, List.not_mem_nil, or_false] at hp
    rcases hp with rfl | rfl <;> cases hk
  entryIds := by decide
  entries := by
    intro e he k hk
    simp only [lawful, List.mem_cons, List.not_mem_nil, or_false] at he
    subst he; cases hk; exact .inr ⟨_, .head _, rfl, nofun⟩

theorem witness_zoneLawKept : ZoneLaw lawful where
  ids := by decide
  stations := by decide
  playing := by
    intro z hz id o b m h
    simp only [lawful, List.mem_cons, List.not_mem_nil, or_false] at hz
    rcases hz with rfl | rfl
    · cases h; exact ⟨_, .head _, rfl, _, .head _, rfl, rfl⟩
    · cases h
  stopping := by
    intro z hz id b x m h
    simp only [lawful, List.mem_cons, List.not_mem_nil, or_false] at hz
    rcases hz with rfl | rfl <;> cases h
  plays := by
    intro e he d hd _
    simp only [lawful, List.mem_cons, List.not_mem_nil, or_false] at he
    subst he
    simp only [List.mem_cons, List.not_mem_nil, or_false] at hd
    subst hd
    exact ⟨_, .head _, rfl, _, _, _, rfl⟩
  stops := by
    intro e he d hd h
    simp only [lawful, List.mem_cons, List.not_mem_nil, or_false] at he
    subst he
    simp only [List.mem_cons, List.not_mem_nil, or_false] at hd
    subst hd
    cases h
  single := by decide

theorem witness_sentFramesAreGood : (playFrame 18).body.octets.length = 30 ∧ (playFrame 12).body.octets.length ≤ 30 ∧ FrameLaw lawful := by
  refine ⟨by decide, by decide, by decide, nofun, ?_, nofun, nofun⟩
  intro p hp
  simp only [lawful, List.mem_cons, List.not_mem_nil, or_false] at hp
  subst hp; unfold elementsFit; decide


/-- A change of the queue of commands and of the permits' isolations leaves the keys alone. -/
theorem keyed_queue (q : List Cmd) : Keyed { lawful with tpc.queue := q } :=
  let k := witness_sound.keyed
  ⟨k.descriptions, k.units, k.segments, k.trains, k.platforms, k.sections, k.breakers, k.grants, k.zones, k.displays⟩

/-! ### What the operations leave -/

theorem witness_powerOnReachesReset : { demo with lst := Lst.blank }.lst = Lst.blank := rfl

theorem witness_loadRecord_refused :
    (let r : RecordFields := { segmentFields with successor := some 127 }
     due (.lineLoadRecord 1 r) (ask
       "1 LINE_LOAD_RECORD kind=SEGMENT index=127 track=UP successor=127 platform=63 section=23 unit=1022 nominal=9999 filter=ADAPT lower=50 upper=0"
       loading) ∧ firstAtFault (recordTests r .segment) = some "successor") ∧
    (let r : RecordFields := { kind := some .breaker, index := some 48 }
     due (.lineLoadRecord 1 r) (ask "1 LINE_LOAD_RECORD kind=BREAKER index=48" loading) ∧
       firstAtFault (recordTests r .breaker) = some "index") := by decide +kernel

theorem witness_tries_dropped : { demo with wlc.line := .part (framed []) true }.wlc.line = .part (framed []) true := rfl

theorem witness_trainSetNumber_tail :
    (due (.trainSetNumber 1 (some 12) (some 5) (some 13)) (ask "1 TRAIN_SET_NUMBER segment=12 number=5 tail=13" demo) ∧
      demo.desc.segment? 13 ≠ none ∧ demo.occ 13 ≠ .unidentified) ∧
    (due (.trainSetNumber 1 (some 11) (some 5) (some 12)) (ask "1 TRAIN_SET_NUMBER segment=11 number=5 tail=12" demo) ∧
      demo.occ 11 = .unidentified ∧ demo.occ 12 = .unidentified ∧ demo.desc.follows 11 12 = false) := by decide +kernel

theorem witness_place : (Placing.creation = .creation ↔ demo.train? 1 = none) ∧ (Placing.recovery = .creation ↔ demo.train? 999 = none) :=
  ⟨⟨fun _ => rfl, fun _ => rfl⟩, nofun, nofun⟩

theorem witness_withdrawTrain : Keyed lawful ∧ (lawful.train? 118).bind (·.trip) = some 301 ∧
    lawful.tripState? 301 = some (demoTripState 301 41000 .running (some 118)) := ⟨witness_sound.keyed, rfl, rfl⟩

theorem witness_tripAssign_between :
    let s := ask "1 TRIP_ASSIGN train=118 trip=300" { nearTrip 40600 with trk.trains := [demoTrain 118 .positioning 11] }
    due (.tripAssign 1 (some 118) (some 300)) s ∧ s.desc.platformOf? 11 = none := by decide +kernel

theorem witness_holds : (lawful.train? 301).map (·.holds) = some [.incident 1] ∧ (lawful.train? 118).map (·.holds) = some [] ∧
    lawful.plat? 2 = some ⟨2, [], none⟩ ∧
    { demo with srg.plats := [⟨2, [.operator], none⟩] }.plat? 2 = some ⟨2, [.operator], none⟩ := ⟨rfl, rfl, rfl, rfl⟩

theorem witness_regulationSet_refused :
    (due (.regulationSet 1 { set := some .peak, tolerance := some 61 }) (ask "1 REGULATION_SET set=PEAK early_tolerance=61" demo) ∧
      ¬ fits 0 60 (some 61)) ∧
    (due (.regulationSet 1 { set := some .peak, window := some 9 }) (ask "1 REGULATION_SET set=PEAK start_window=9" demo) ∧
      ¬ fits 10 60 (some 9)) := by simp only [fits_iff]; decide +kernel

/-- A train with an authority that is ISSUED but not SENT, and perhaps its frame. -/
def unsent (q : List OutFrame) : State :=
  { authorised { demoAuthority .issued with sent := false } with wlc.outQueue := q }

/-- The AUTHORISE frame of that authority. -/
def authoriseFrame (onLine : Bool) : OutFrame :=
  { demoFrame 0 onLine false false with dest := 400, body := .authorise 2 118 7 }

theorem witness_revoke :
    ((authorised (demoAuthority .revoking)).train? 118).bind (·.authority) = some (demoAuthority .revoking) ∧
    ((authorised (demoAuthority .issued)).train? 118).bind (·.authority) = some (demoAuthority .issued) ∧
    findFrame (isAuthoriseOf 7) (unsent []) = none ∧
    findFrame (isAuthoriseOf 7) (unsent [authoriseFrame true]) = some (authoriseFrame true) ∧
    (let s := { unsent [authoriseFrame false] with
        trk.trains := [{ demoTrain 118 .inService 10 with
          authority := some { demoAuthority .issued with sent := false }, holds := [.operator], call := some (demoCall .authorised) }] }
     findFrame (isAuthoriseOf 7) s = some (authoriseFrame false) ∧ (s.train? 118).map (·.holds) = some [.operator]) := by decide

theorem witness_evaluate :
    (∃ t, lawful.train? 118 = some t ∧ evaluationChecks lawful t (demoCall .dwelling) = none) ∧
    (∃ t, waiting.train? 118 = some t ∧ t.call = some (demoCall .waiting) ∧ evaluationChecks waiting t (demoCall .waiting) = some 1) ∧
    (requestGrant 118 1 1 25 waiting).1 = true ∧ waiting.wlc.outQueue.length < 32 ∧
    32 ≤ ({ waiting with wlc.outQueue := List.replicate 32 (playFrame 1) }).wlc.outQueue.length ∧
    (requestGrant 118 1 1 25 { waiting with tpc.sections := [{ demoSection 1 .energised with budget := 0 }] }).1 = false :=
  ⟨⟨_, rfl, rfl⟩, ⟨_, rfl, rfl, rfl⟩, by decide +kernel, by decide, by decide, by decide +kernel⟩

theorem witness_sectionsSwitched : demo.sec? 1 ≠ none ∧
    (Keyed lawful ∧ lawful.brk? 5 ≠ none ∧ lawful.openComing 5 = false) ∧
    (let s := { lawful with tpc.queue := [demoCmd 5 .queued none] }
     Keyed s ∧ s.brk? 5 ≠ none ∧ s.openComing 5 = true) :=
  ⟨by decide, ⟨witness_sound.keyed, by decide, by decide⟩, keyed_queue _, by decide, by decide⟩

theorem witness_selectWindow : let s := { demo with tpc.queue := [demoCmd 6 .queued none, demoCmd 5 .selecting (some 1000)] }
    s.tpc.queue = [demoCmd 6 .queued none] ++ demoCmd 5 .selecting (some 1000) :: [] ∧ s.lmc.count = 1000 ∧
      ∀ d ∈ [demoCmd 6 .queued none], d.breaker ≠ 5 := by decide

theorem witness_makePermit :
    demo.sec? 2 ≠ none ∧ (∀ p ∈ demo.tpc.permits, p.id ≠ 255 ∧ p.place ≠ 15) ∧ demo.permitPlace.map (·.1) = some 0 ∧
    demo.permitCase (demoSection 2 .dead) = .begin_ true ∧ lawful.permitCase (demoSection 2 .isolated) = .record ∧
    { demo with tpc.isolations := [⟨2, .clearing⟩] }.permitCase (demoSection 2 .isolating) = .join .requested := by decide

theorem witness_permitEnds_left :
    (permitted .requested).permit? 255 = some (demoPermit 15 255 2 .requested) ∧
    (let s := { permitted .requested with tpc.isolations := [⟨2, .clearing⟩] }
     s.isolation? 2 = some ⟨2, .clearing⟩ ∧ ∃ p ∈ s.openPermits 2, p.isolated = true) ∧
    (let s := { permitted .ended with tpc.isolations := [⟨2, .confirming 9⟩] }
     s.isolation? 2 = some ⟨2, .confirming 9⟩ ∧ ∀ p ∈ s.openPermits 2, p.isolated = false) ∧
    (permitted .issued).permitOpen 2 = true ∧ (permitted .ended).permitOpen 2 = false ∧
    (permitted .ended).sec? 2 = some (demoSection 2 .dead) := by decide

theorem witness_raises_full :
    let s := { demo with inm.incidents := List.replicate 31 (demoIncident 1 .raised 1) ++ [demoIncident 2 .closed 1] }
    s.openIncident? .operator .line = none ∧ s.inm.incidents.length = 32 ∧
      s.inm.incidents.find? (·.phase == .closed) = some (demoIncident 2 .closed 1) := by decide +kernel

theorem witness_incident_notes :
    (due (.incidentAck 1 (some 1) (some 0)) (ask "1 INCIDENT_ACK id=1 note_code=0" demo) ∧ given 1 65535 (some 1) ∧
      ¬ fits 1 65535 (some 0)) ∧
    (due (.incidentContain 1 (some 1) (some 65536)) (ask "1 INCIDENT_CONTAIN id=1 note_code=65536" demo) ∧ ¬ fits 1 65535 (some 65536)) ∧
    due (.incidentClose 1 (some 1) (some 65536)) (ask "1 INCIDENT_CLOSE id=1 note_code=65536" demo) := by
  simp only [given_iff, fits_iff]; decide +kernel

theorem witness_closeIncident : demo.incident? 1 = some (demoIncident 1 .raised 1) ∧ Keyed lawful ∧
    lawful.incident? 1 = some (demoIncident 1 .raised 1) ∧ (lawful.ans.entries.map (·.id)).Nodup :=
  ⟨rfl, witness_sound.keyed, rfl, by decide⟩

/-- A post of the operator to all stations. -/
def demoPost (scope : List Nat) (priority : Priority) : Post :=
  { template := 255, station := none, minutes := none, platform := none, train := none, priority := priority, scope := scope,
    origin := .operator, rep := .times 1, interval := none, expiryAfter := none, display := false }

theorem witness_postGiven : (postGiven (postFields 255 .all) demo).toOption = some (demoPost [1, 2] .service) := by decide +kernel

/-- The test line with the announcement table full. -/
def crowded (w : Option RemovalCause) : State := spoken demoLine.stations ((List.range 48).map fun i => demoEntry (i + 1) w)

theorem witness_postEntry :
    ((ascending [9]).filter fun st => (demo.desc.station? st).isSome) = [] ∧
    ((ascending [2, 1]).filter fun st => (demo.desc.station? st).isSome) = [1, 2] ∧ demo.ans.entries.length < 48 ∧
    (crowded none).ans.entries.length = 48 ∧ evictable .information (crowded none).ans.entries = none ∧
    evictable .emergency (crowded none).ans.entries = some (demoEntry 1 none) := by decide +kernel

/-! ### The conditions inside a request and an operation -/

theorem test_recordFilterWord :
    readLine (checked "1 LINE_LOAD_RECORD filter=9") = .request (.lineLoadRecord 1 { filter := some (.one 9) }) ∧
    (after (.lineLoadRecord 1 { filter := some (.one 9) }) (ask "1 LINE_LOAD_RECORD filter=9" surveyed)).clp.sent.getLast? =
      some (.refused 1 .state []) := by decide +kernel

/-- The test line with its second segment, its third breaker and its last unit changed. -/
def misloaded (f : Segment → Segment) (b : BreakerDesc → BreakerDesc) (u : UnitDesc → UnitDesc) : Description :=
  { demoLine with segments := demoLine.segments.modify 1 f, breakers := demoLine.breakers.modify 2 b,
                  units := demoLine.units.modify 3 u }

theorem witness_descriptionFaults :
    (checkReferences (misloaded (fun g => { g with successor := some 127 }) id id)).toOption = none ∧
    (checkJoins (misloaded (fun g => { g with track := .down }) id id)).toOption = none ∧
    (checkJoins (misloaded (fun g => { g with track := .depot }) id id)).toOption = some () ∧
    (checkPlatforms (misloaded (fun g => { g with platform := some 2 }) id id)).toOption = none ∧
    (checkPlatforms (misloaded (fun g => { g with platform := some 3 }) id id)).toOption = none ∧
    (checkUnits (misloaded id (fun b => { b with number := 2 }) id)).toOption = none ∧
    (checkUnits (misloaded id id fun u => { u with kind := .power })).toOption = none ∧
    (checkFeeders (misloaded id (fun b => { b with kind := .feeder, sections := [1] }) id)).toOption = none ∧
    (descriptionChecks demoLine).toOption = some () := by decide +kernel

theorem witness_patternSet_refused :
    (let f : PatternFields := { index := some 15, enabled := some true, addressValue := some 1024 }
     due (.patternSet 1 f) (ask "1 PATTERN_SET index=15 enabled=YES address_value=1024" demo) ∧
       firstAtFault (patternTests f) = some "address_value") ∧
    (let f := fun p => firstAtFault (patternTests (patternFields 15 p))
     let p := demoPattern .unitLocation
     f p = none ∧ f { p with addressMask := 1024 } = some "address_mask" ∧ f { p with length := .one 33 } = some "length" ∧
       f { p with offset := 27 } = some "offset" ∧ f { p with compare := [0] } = some "compare_octets" ∧
       f { p with mask := [] } = some "mask_octets" ∧ f { p with severity := 5 } = some "severity" ∧
       f { p with location := .fixed (.segment 128) } = some "location") ∧
    ¬ (∃ n, (demoPattern .unitLocation).length = .one n ∧ 32 < n) := by
  refine ⟨by decide +kernel, by decide +kernel, ?_⟩
  rintro ⟨n, h, k⟩
  cases h; exact absurd k (by decide)

theorem witness_hear : demo.unitRec? 201 = none ∧ demo.unitRec? 200 = some (demoUnit 200 .track .live) ∧
    demo.unitRec? 401 = some (demoUnit 401 .station .stale) ∧
    ({ demo with wlc.registry := [demoUnit 300 .power .unheard] }).unitRec? 300 = some (demoUnit 300 .power .unheard) ∧
    (let silence := fun p => { demoIncident 9 p 3 with cls := .fieldSilence, location := .unit 401 }
     let s := fun p => { demo with inm.incidents := [silence p] }
     (s .raised).openIncident? .fieldSilence (.unit 401) = some (silence .raised) ∧ (s .raised).incident? 9 = some (silence .raised) ∧
       (s .contained).openIncident? .fieldSilence (.unit 401) = some (silence .contained) ∧
       ((hear 401 (s .raised)).incident? 9).map (·.phase) = some .closed) := by decide +kernel

/-- The test line at night with its pattern set ARMED: entry 0 matches every frame of 6 octets, entry 1 none. -/
def armed : State :=
  { demo with lmc.mode := .nightLive, wlc.armed := true,
              wlc.patterns := { Pattern.empty with enabled := true, severity := 2, oneShot := true } :: List.replicate 15 Pattern.empty }

theorem witness_matchPatterns : demo.wlc.armed = false ∧ armed.wlc.armed = true ∧ armed.wlc.patterns.length = 16 ∧
    (let f := unitFrame 400 23 (List.replicate 6 255)
     (armed.wlc.patterns.map fun p => patternMatches p .alarm f) = true :: List.replicate 15 false ∧
       (armed.wlc.patterns.map fun p => patternMatches p .alarm (unitFrame 400 23 [1, 2, 3, 4, 5])) = List.replicate 16 false ∧
       ((matchPatterns .alarm f armed).wlc.patterns[0]?.map fun p => (p.spent, p.matched)) = some (true, 1)) ∧
    demo.desc.unit? 201 = none ∧ (demo.desc.unit? 200).map (·.kind) = some .track ∧ (demo.desc.unit? 300).map (·.kind) = some .power ∧
    (demo.desc.unit? 400).map (·.kind) = some .station := by decide +kernel

theorem witness_goStale :
    (Keyed lawful ∧ lawful.unitRec? 200 = some (demoUnit 200 .track .live) ∧ lawful.unitRec? 300 = some (demoUnit 300 .power .live) ∧
      lawful.unitRec? 400 = some (demoUnit 400 .station .live)) ∧
    (∃ d, lawful.desc.unit? 200 = some d ∧ d.silenceIncident = true) ∧
    (∀ a ∈ [10, 11, 12, 13], a ∈ lawful.desc.unitSegments 200) ∧ lawful.brk? 5 ≠ none ∧ lawful.zone? 1 ≠ none ∧
    (∃ f ∈ ({ demo with wlc.outQueue := [demoFrame 0 false false false] }).wlc.outQueue, f.dest = 200 ∧ f.body = .poll) ∧
    (∀ f ∈ demo.wlc.outQueue, f.dest = 200 → f.body ≠ .poll) ∧
    ((demoLine.units.map fun u => { u with silenceIncident := false }).all fun u => !u.silenceIncident) = true :=
  ⟨⟨witness_sound.keyed, rfl, rfl, rfl⟩, ⟨_, rfl, rfl⟩, by decide, by decide, by decide, ⟨_, .head _, rfl, rfl⟩, nofun, rfl⟩

/-- The line of TT_ADD_TRIP that gives a trip of the UP run 1 in slot 1. -/
def tripText (trip start points : String) : String :=
  "1 TT_ADD_TRIP slot=1 trip=" ++ trip ++ " run_number=1 direction=UP start=" ++ start ++ " timing_points=" ++ points

/-- The request that this line spells, with the points given. -/
def tripOf (n start : Nat) (points : List TimingPoint) : Instr :=
  .ttAddTrip 1 (tripFields 1 { demoTrip n start with points := points })

theorem witness_ttAddTrip_fields :
    (let f : TripFields := { slot := some 1, trip := some 10000 }
     due (.ttAddTrip 1 f) (ask "1 TT_ADD_TRIP slot=1 trip=10000" demo) ∧ firstAtFault (tripTests f) = some "trip") ∧
    (let f : TripFields := { slot := some 1, trip := some 9999, run := some 1, direction := some .up, start := some 86399,
                             points := some [] }
     due (.ttAddTrip 1 f) (ask (tripText "9999" "86399" "-") demo) ∧ firstAtFault (tripTests f) = some "timing_points") ∧
    (let points : List TimingPoint := [⟨1, none, some 41000, 300⟩, ⟨2, some 41100, none, 301⟩]
     due (tripOf 9999 41000 points) (ask (tripText "9999" "41000" "1,-,41000,300,2,41100,-,301") demo) ∧
       points.map (fun p => firstAtFault (pointTests p)) = [none, some "minimum_dwell"]) ∧
    firstAtFault (pointTests ⟨31, some 86400, none, 0⟩) = some "planned_arrival" := by decide +kernel

theorem witness_ttAddTrip_shapes :
    due (tripOf 5 41000 [⟨1, some 41000, some 41000, 20⟩]) (ask (tripText "5" "41000" "1,41000,41000,20") demo) ∧
    ¬ shaped 1 0 ⟨1, some 41000, some 41000, 20⟩ ∧ shaped 1 0 ⟨1, none, none, 20⟩ ∧ shaped 2 0 ⟨1, none, some 41000, 20⟩ ∧
    shaped 2 1 ⟨2, some 41100, none, 20⟩ ∧ ¬ shaped 2 1 ⟨2, none, none, 20⟩ ∧
    due (tripOf 5 41000 [⟨1, none, some 41001, 20⟩, ⟨2, some 41100, none, 20⟩])
      (ask (tripText "5" "41000" "1,-,41001,20,2,41100,-,20") demo) ∧
    (let r := { demoTrip 5 41000 with points := [⟨1, none, some 41000, 20⟩, ⟨2, some 40999, none, 20⟩] }
     due (tripOf 5 41000 r.points) (ask (tripText "5" "41000" "1,-,41000,20,2,40999,-,20") demo) ∧
       tripTimes r = [(0, "start", 41000)] ++ (0, "planned_departure", 41000) :: (1, "planned_arrival", 40999) :: [] ∧
       demo.offset 40999 < demo.offset 41000) := by
  refine ⟨by decide +kernel, ?_, ?_, ?_, ?_, ?_, by decide +kernel, by decide +kernel⟩ <;> (unfold shaped; decide)

theorem witness_ttAddTrip_places :
    (due (tripOf 5 41000 [⟨1, none, some 41000, 20⟩, ⟨31, some 41100, none, 20⟩])
      (ask (tripText "5" "41000" "1,-,41000,20,31,41100,-,20") demo) ∧ demo.desc.station? 31 = none) ∧
    due (tripOf 5 41000 [⟨1, none, some 41000, 20⟩, ⟨1, some 41100, none, 20⟩])
      (ask (tripText "5" "41000" "1,-,41000,20,1,41100,-,20") demo) ∧
    (let points : List TimingPoint := [⟨1, none, some 41000, 20⟩, ⟨2, some 41100, none, 20⟩]
     let text := tripText "300" "41000" "1,-,41000,20,2,41100,-,20"
     due (tripOf 300 41000 points) (ask text demo) ∧ (∃ q ∈ demo.lst.buffer, q.number = 300) ∧
     (let s := { demo with lst.buffer := [demoTrip 5 41001] }
      due (tripOf 300 41000 points) (ask text s) ∧ (s.lst.buffer.getLast?.map fun q => decide (s.offset 41000 < s.offset q.start)) = some true) ∧
     (let s := { demo with lst.buffer := List.replicate 1024 (demoTrip 5 3) }
      (∀ q ∈ s.lst.buffer, q.number ≠ 300) ∧ 1024 ≤ s.lst.buffer.length)) := by
  refine ⟨by decide +kernel, by decide +kernel, by decide +kernel, by decide +kernel, by decide +kernel, ?_⟩
  exact ⟨fun q hq => by rw [List.eq_of_mem_replicate hq]; decide, Nat.le_of_eq List.length_replicate.symm⟩

theorem witness_permitCompletions :
    (permitted .recording).permit? (Safety.recordOf (demoPermit 15 255 2 .recording)).id = some (demoPermit 15 255 2 .recording) ∧
    demo.sec? 2 ≠ none ∧ (sectioned fun r => { r with state := .isolating }).secState? 1 = some .isolating ∧
    (permitted .surrendering).tpc.permits.find? (·.place == 15) = some (demoPermit 15 255 2 .surrendering) ∧
    (permitted .surrendering).permit? 255 = some (demoPermit 15 255 2 .surrendering) := by decide

theorem witness_giveTrip : (calling (demoCall .waiting)).train? 118 = some { demoTrain 118 .inService 10 with call := some (demoCall .waiting) } ∧
    demo.train? 118 = some (demoTrain 118 .positioning 10) ∧ demo.tripState? 300 = some (demoTripState 300 40600 .pending none) ∧
    ((giveTrip 118 300 (calling (demoCall .waiting))).train? 118).map (fun t => (t.state, t.trip, t.nextPoint, t.deviation)) =
      some (.inService, some 300, 0, 0) := by decide +kernel

theorem witness_breakerClose_state :
    (let s := ask "1 BREAKER_COMMAND breaker=6 action=CLOSE" demo
     due (.breakerCommand 1 (some 6) (some .closing)) s ∧ s.lmc.mode ≠ .survey ∧ (∀ x ∈ s.desc.sectionsFed 6, s.permitOpen x = false) ∧
       (∀ x ∈ s.desc.sectionsFed 6, s.secIs x .held = false) ∧ ∃ x ∈ s.desc.sectionsFed 6, s.secIs x .energised = false) ∧
    (let s := ask "1 BREAKER_COMMAND breaker=5 action=CLOSE" demo
     due (.breakerCommand 1 (some 5) (some .closing)) s ∧ (∀ x ∈ s.desc.sectionsFed 5, s.secIs x .energised = true) ∧
       s.brkState? 5 ≠ some .opened) ∧
    (let s := ask "1 BREAKER_COMMAND breaker=7 action=CLOSE" (tied [demoCmd 7 .queued none])
     due (.breakerCommand 1 (some 7) (some .closing)) s ∧ (∀ x ∈ s.desc.sectionsFed 7, s.secIs x .energised = true) ∧
       s.brkState? 7 = some .opened ∧ s.command? 7 ≠ none) := by decide +kernel

theorem witness_placeOpen_owed :
    let s := { lawful with tpc.queue := List.replicate 16 (demoCmd 6 .queued none) }
    Keyed s ∧ s.openComing 5 = false ∧ s.brk? 5 ≠ none ∧ ((placeOpen 5 .operator s).brk? 5).bind (·.owed) = some .operator :=
  ⟨keyed_queue _, by decide +kernel, by decide +kernel, by decide +kernel⟩

theorem witness_nightHold : Keyed lawful ∧ (∃ r ∈ lawful.tpc.sections, r.state = .isolated) ∧
    (∃ r ∈ lawful.tpc.sections, r.state = .energised ∧ lawful.keepLive r.index = false) ∧
    (modeChange .nightHeld .request none lawful).secState? 1 = some .held ∧
    (modeChange .nightHeld .request none lawful).secState? 2 = some .isolated :=
  ⟨witness_sound.keyed, by decide +kernel, by decide +kernel, by decide +kernel, by decide +kernel⟩

theorem witness_responseSet_refused :
    (let f : ResponseFields := { cls := some .operator, severity := some 4, upstream := some 4 }
     due (.responseSet 1 f) (ask "1 RESPONSE_SET class=OPERATOR severity=4 hold-upstream=4" demo) ∧
       firstAtFault (responseTests f) = some "hold-upstream") ∧
    (let f := responseFields .operator 4 { Response.empty with upstream := 3, template := some 255 }
     firstAtFault (responseTests f) = none ∧ firstAtFault (responseTests { f with template := some (.one 256) }) = some "template" ∧
       firstAtFault (responseTests { f with template := some .none }) = none ∧
       firstAtFault (responseTests { f with allClear := none }) = some "all-clear") ∧
    (due (.incidentRaise 1 (some .operator) (some 4) (some (.segment 128)) none)
        (ask "1 INCIDENT_RAISE class=OPERATOR severity=4 location=SEGMENT(128)" demo) ∧
      firstAtFault (raiseTests (some .operator) (some 4) (some (.segment 128)) none) = some "location") ∧
    (due (.incidentRaise 1 (some .operator) (some 4) (some .line) (some 65536))
        (ask "1 INCIDENT_RAISE class=OPERATOR severity=4 location=LINE note_code=65536" demo) ∧
      firstAtFault (raiseTests (some .operator) (some 4) (some .line) (some 65536)) = some "note_code") := by decide +kernel

/-- A response with every action. -/
def wideResponse : Response :=
  { upstream := 3, inPlace := true, deenergise := true, template := some 255, priority := .safety, scope := .location, escalate := true,
    allClear := true }

/-- A line at work with that response set for the class and severity of its open incident, which is at its second section. -/
def answered : State :=
  { lawful with
    inm.responses := [⟨.obstruction, 1, wideResponse, false⟩]
    inm.incidents := [{ demoIncident 1 .raised 1 with location := .powerSection 2, links := [.announce 1] }, demoIncident 65535 .closed 1] }

theorem keyed_answered : Keyed answered :=
  let k := witness_sound.keyed
  ⟨k.descriptions, k.units, k.segments, k.trains, k.platforms, k.sections, k.breakers, k.grants, k.zones, k.displays⟩

theorem witness_applyResponse :
    (Keyed answered ∧ (answered.ans.entries.map (·.id)).Nodup ∧
      (answered.incident? 1).map (·.links) = some [.announce 1]) ∧
    (responseEntry answered.inm.responses .obstruction 1 = wideResponse ∧ responseEntry answered.inm.responses .obstruction 2 = Response.empty) ∧
    (let r := resolve answered.desc (.powerSection 2)
     upstreamPlatforms answered.desc 3 r = [2, 4] ∧ (answered.trk.trains.filter fun t => r.heads.contains t.head).length = 1 ∧
       r.sections = [2] ∧ r.stations = [2] ∧ answered.plat? 2 ≠ none) ∧
    answered.ans.entries.length < 48 ∧ (∃ w ∈ answered.ans.entries, w.id = 1 ∧ w.origin = .incident 1) := by
  refine ⟨⟨keyed_answered, ?_, ?_⟩, ?_, ?_, ?_, ?_⟩ <;> decide +kernel

theorem test_applyResponse : let t := applyResponse 1 answered
    t.platHolds 4 = [.incident 1] ∧ (t.train? 301).map (·.holds) = some [.incident 1] ∧
    (t.sec? 2).map (fun r => (r.state, r.claims)) = some (.isolated, [1]) ∧
    (t.incident? 1).map (·.unlinked) = some 0 := by decide +kernel

theorem witness_templateLoad_refused :
    due (.templateLoad 1 (some 255) (some (List.replicate 5 (.slot .train))))
      (ask "1 TEMPLATE_LOAD index=255 elements=SLOT(TRAIN),SLOT(TRAIN),SLOT(TRAIN),SLOT(TRAIN),SLOT(TRAIN)" demo) ∧
    ((List.replicate 5 (Element.slot .train)).map fun x : Element => if x = .slot .train then 3 else 1).sum = 15 ∧
    ((List.replicate 4 (Element.slot .train)).map fun x : Element => if x = .slot .train then 3 else 1).sum = 12 := by
  decide +kernel

theorem foremost_single {p : Entry → Prop} {e : Entry} (h : p e) : foremost p [e] e :=
  ⟨[], [], rfl, h, fun _ h => absurd h List.not_mem_nil, fun _ h => absurd h List.not_mem_nil⟩

/-- An entry with a template that yields a phrase, to be displayed. -/
def spokenEntry : Entry := { demoEntry 1 none with template := 255, display := true }

theorem spokenEntry_eligible : eligible (spoken demoLine.stations [spokenEntry]) 1 spokenEntry :=
  ⟨demoDelivery 1, .head _, rfl, rfl, Nat.le_refl 1000⟩

theorem witness_selectZone :
    (∀ z ∈ [ZoneState.idle, .local_, .unreachable, .playing 1 false false 9, .stopping 1 false none 9],
      (zoned z).zone? 1 = some ⟨1, z, none⟩ ∧ ((zoned z).ans.entries.map (·.id)).Nodup) ∧
    foremost (mayPlay (spoken demoLine.stations [spokenEntry]) 1 false) [spokenEntry] spokenEntry ∧
    (spoken demoLine.stations [spokenEntry]).ans.entries = [spokenEntry] ∧
    (spoken demoLine.stations [spokenEntry]).expansion spokenEntry 1 = [4095] ∧
    (spoken demoLine.stations [spokenEntry]).wlc.outQueue.length < 32 ∧
    ({ spoken demoLine.stations [spokenEntry] with ans.templates := [] }).expansion spokenEntry 1 = [] :=
  ⟨by decide +kernel, foremost_single ⟨rfl, spokenEntry_eligible, .inl rfl, nofun⟩, rfl, by decide +kernel, by decide +kernel,
    by decide +kernel⟩

theorem witness_display : foremost (mayShow 1 false) [spokenEntry] spokenEntry ∧
    ((spoken demoLine.stations [spokenEntry]).messageFor 1 false = [4095] ∧ isNight demo.lmc.mode = false ∧
      isNight night.lmc.mode = true) ∧
    demo.display? 2 = some ⟨2, none, none⟩ ∧ (demo.zone? 1).map (·.state) = some .idle ∧ (demo.zone? 2).map (·.state) = some .unreachable ∧
    (({ demo with ans.displays := [⟨2, some (demo.shown 2), none⟩] }).display? 2).map (fun d : Display => d.last) = some (some (demo.shown 2)) :=
  ⟨foremost_single ⟨rfl, rfl, ⟨demoDelivery 1, .head _, rfl⟩, nofun⟩, by decide +kernel, by decide +kernel⟩

/-- The test line in NIGHT_HELD. -/
def nightHeld : State := { demo with lmc.mode := .nightHeld }

theorem witness_modeRequest_refused :
    due (.modeRequest 1 (some .traffic) none) (ask "1 MODE_REQUEST target=TRAFFIC" nightHeld) ∧
    (let ask := ask "1 MODE_REQUEST target=REDUCED"
     due (.modeRequest 1 (some .reduced) none) (ask { night with lmc.heldCount := 1 }) ∧
     due (.modeRequest 1 (some .reduced) none) (ask { night with lst.active := none }) ∧
     due (.modeRequest 1 (some .reduced) none) (ask { night with lmc.timeSet := false }) ∧
     due (.modeRequest 1 (some .reduced) none) (ask night) ∧ night.lmc.heldCount = 0 ∧ night.lst.active ≠ none) ∧
    (due (.modeRequest 1 (some .nightLive) none) (ask "1 MODE_REQUEST target=NIGHT_LIVE" demo) ∧
      (demo.srg.trips.filter (·.status == .running)).length = 1) ∧
    (let s := { night with trk.trains := [demoTrain 118 .inService 10] }
     due (.modeRequest 1 (some .nightHeld) none) (ask "1 MODE_REQUEST target=NIGHT_HELD" s) ∧
       (s.trk.trains.filter (·.state == .inService)).length = 1) ∧
    (let s := ask "1 MODE_REQUEST target=NIGHT_HELD" night
     due (.modeRequest 1 (some .nightHeld) none) s ∧ (s.trk.trains.filter (·.state == .inService)).length = 0 ∧
       s.demotions = ["TRAINS_POSITIONING", "TRAINS_LOST"]) ∧
    (let s := ask "1 MODE_REQUEST target=NIGHT_HELD escalate=YES" { night with trk.trains := [demoTrain 118 .stabled 13] }
     due (.modeRequest 1 (some .nightHeld) (some true)) s ∧ s.demotions = []) := by decide +kernel

theorem witness_surveyEnd_refused :
    (let ask := ask "1 SURVEY_END target=TRAFFIC"
     let due := due (.surveyEnd 1 (some .traffic))
     due (ask { surveyed with lst.lineRegion := .damaged }) ∧ due (ask loading) ∧
     due (ask { surveyed with wlc.registry := [demoUnit 200 .track .live, demoUnit 300 .power .unheard] }) ∧
     due (ask { surveyed with tpc.sections := [demoSection 1 .dead, demoSection 2 .unknown] }) ∧
     due (ask { surveyed with lst.active := none })) ∧
    (let s := ask "1 SURVEY_END target=NIGHT_HELD" { surveyed with trk.trains := [demoTrain 118 .inService 10] }
     due (.surveyEnd 1 (some .nightHeld)) s ∧ (s.trk.trains.filter (·.state == .inService)).length = 1) ∧
    (let s := ask "1 SURVEY_END target=NIGHT_HELD" surveyed
     due (.surveyEnd 1 (some .nightHeld)) s ∧ (rebuildTrips s).demotions = ["TRAINS_POSITIONING", "TRAINS_LOST"]) := by decide +kernel

theorem witness_escalate :
    (night.lmc.escalation = false ∧ nightHeld.lmc.mode = .nightHeld ∧ (escalate 1 nightHeld).lmc.mode = .nightLive) ∧
    (let s := { demo with lmc.mode := .reduced, lmc.escalation := true }
     s.lmc.mode = .reduced ∧ (escalate 1 s).lmc.mode = .traffic) ∧
    demo.lmc.mode ≠ .nightHeld ∧ ¬ (demo.lmc.mode = .reduced ∧ demo.lmc.escalation = true) := by decide +kernel

/-! ### What frames, reports and the shared operations leave -/

/-- The test line with the first segment a DEPOT. -/
def depot : State := { demo with lmc.working.segments := { demoSeg 10 (some 11) none 1 with track := .depot } :: demoLine.segments.tail }

theorem witness_trackEvent :
    ([0, 11, 3, 231] : List Octet).length = 4 ∧ (256 * (3 : Octet).toNat + (231 : Octet).toNat = 999) ∧
    (demo.desc.segment? 11).map (·.unit) = some 200 ∧ demo.desc.segment? 14 = none ∧
    (demo.train? 118).map (fun t => (t.state, t.head)) = some (.positioning, 10) ∧ demo.desc.follows 11 10 = true ∧
    demo.desc.follows 12 10 = false ∧ (demo.train? 999).map (·.state) = some .lost ∧ demo.train? 5 = none ∧
    (∃ y ∈ depot.desc.segments, y.track = .depot ∧ depot.desc.follows 11 y.index = true) ∧ depot.trk.trains.length < 48 ∧
    (¬ ∃ y ∈ demo.desc.segments, y.track = .depot ∧ demo.desc.follows 11 y.index = true) ∧
    (demo.trk.trains.filter fun t => t.state != .lost && demo.desc.follows 11 t.head).map (·.number) = [118] ∧
    (demo.trk.trains.filter fun t => t.state != .lost && demo.desc.follows 12 t.head).length ≠ 1 ∧
    (∀ t ∈ demo.trk.trains, t.state ≠ .lost → t.head ≠ 12) := by decide +kernel

theorem test_trackEvent_cases :
    (takeTrackEvent 200 [0, 11, 3, 231] demo).occ 11 = .occupied 999 ∧ (takeTrackEvent 200 [0, 12, 0, 118] demo).occ 12 = .occupied 118 ∧
    (takeTrackEvent 200 [0, 11, 0, 5] depot).occ 11 = .occupied 5 ∧ (takeTrackEvent 200 [0, 13, 0, 5] demo).occ 13 = .unidentified ∧
    (takeTrackEvent 200 [1, 10, 0, 0] demo).occ 10 = .clear ∧
    ((takeTrackEvent 200 [1, 10, 0, 0] demo).train? 118).map (·.state) = some .lost ∧
    (takeTrackEvent 200 [0, 11, 3, 232] demo).inm.incidents.length = 4 := by decide +kernel

theorem witness_trackStatus :
    readTrackStatus [] = none ∧ readTrackStatus [0] = none ∧ readTrackStatus [1, 11] = none ∧
    readTrackStatus [1, 11, 255, 255] = some [⟨11, true, 1023⟩] ∧ readTrackStatus [1, 13, 0, 0] = some [⟨13, false, 0⟩] ∧
    (readTrackStatus (8 :: List.replicate 24 0)).isSome ∧ readTrackStatus (9 :: List.replicate 27 0) = none ∧
    demo.occ 13 = .clear ∧ demo.occ 11 = .unidentified ∧ { demo with trk.segs := [⟨10, .unknown, none⟩] }.occ 10 = .unknown ∧
    positionOf demoLine [11] = some (11, none) ∧ positionOf demoLine [10, 11] = some (11, some 10) ∧ positionOf demoLine [10, 12] = none ∧
    positionOf demoLine (ascending ([11] ++ [10])) = some (11, some 10) ∧ positionOf demoLine (ascending ([12] ++ [10])) = none ∧
    surveyed.train? 5 = none ∧ surveyed.trk.trains.length < 48 := by decide +kernel

theorem witness_tables :
    lawful.occ 10 = .occupied 118 ∧ (lawful.train? 118).map (fun t => (t.head, t.tail)) = some (10, none) ∧
    lawful.occ 12 = .occupied 301 ∧ (lawful.train? 301).map (fun t => (t.head, t.tail)) = some (13, some 12) ∧
    lawful.occ 11 = .clear ∧ demo.occ 11 = .unidentified ∧
    (Placing.move = .creation ↔ lawful.train? 118 = none) ∧ (Placing.creation = .creation ↔ lawful.train? 5 = none) ∧
    (placeTables 118 13 none .relocation lawful).1.occ 12 = .unidentified ∧
    ((placeTables 118 13 none .relocation lawful).1.train? 301).map (·.state) = some .lost := by decide +kernel

theorem witness_reports :
    demo.openIncident? .trainStopped (.segment 10) = none ∧
    (∀ p ∈ [Phase.raised, .contained],
      ({ demo with inm.incidents := [{ demoIncident 1 p 1 with cls := .trainStopped, location := .segment 10 }] }.openIncident?
        .trainStopped (.segment 10)).map (fun i : Incident => i.phase) = some p) ∧
    (waiting.train? 118).bind (·.call) = some (demoCall .waiting) ∧ (demo.train? 118).bind (·.call) = none ∧
    (lawful.grant? 118).map (·.sec) = some 1 ∧ lawful.desc.sectionOf? 12 = some 2 ∧ lawful.desc.sectionOf? 11 = some 1 ∧
    windowSections demoLine 11 = [2] ∧ demo.sec? 9 = none ∧ demo.sec? 1 = some (demoSection 1 .energised) ∧
    (reportOccupancy (11, .occupied 5, .clear) waiting).train? 118 ≠ waiting.train? 118 := by decide +kernel

theorem witness_arrive :
    (demo.train? 118).map (·.trip) = some none ∧ (waiting.train? 118).map (fun t => (t.trip, t.nextPoint)) = some (some 301, 0) ∧
    (waiting.pointFrom? 301 0 2).map (·.1) = some 0 ∧ (waiting.pointFrom? 301 0 4).map (·.1) = some 1 ∧
    waiting.pointFrom? 301 1 2 = none ∧ (waiting.tripPoints 301).length = 2 ∧
    ((waiting.plat? 2).bind (·.lastDeparture) = none) ∧
    (({ waiting with srg.plats := [⟨2, [], some 990⟩] }.plat? 2).bind (·.lastDeparture) = some 990) ∧
    ((waiting.tripPoints 301).map (·.departure)) = [some 41000, none] := by decide +kernel

theorem test_arrive_last : let t := arrive 118 4 { waiting with trk.trains := [{ demoTrain 118 .inService 12 with trip := some 301 }] }
    (t.tripState? 301).map (·.status) = some .done ∧ ((t.train? 118).bind (·.call)).map (·.point) = some none := by decide +kernel

theorem witness_assignTrip :
    demo.desc.platformOf? 10 = some 2 ∧ demo.desc.platformOf? 11 = none ∧ ((demo.desc.station? 1).map (·.terminal)) = some true ∧
    (((assignTrip 118 (nearTrip 40600)).train? 118).map (·.trip) = some (some 300)) ∧
    assignTrip 118 (nearTrip 40601) = nearTrip 40601 := by decide +kernel

theorem witness_depart :
    ((authorised (demoAuthority .revoking)).train? 118).bind (·.authority) = some (demoAuthority .revoking) ∧
    demo.desc.platformSegment? 3 = none ∧ (demo.desc.platformSegment? 2).map (·.index) = some 10 ∧
    ((calling (demoCall .departing)).train? 118).map (fun t => t.call.map (·.phase)) = some (some .departing) ∧
    (depart 118 2 demo).inm.incidents.length = 4 ∧ (depart 118 2 (authorised (demoAuthority .issued))).inm.incidents.length = 3 ∧
    ((depart 118 2 demo).plat? 2).map (·.lastDeparture) = some (some 1000) := by decide +kernel

theorem witness_delayRule :
    let late := fun (d : Int) (e : Option Nat) =>
      { demo with trk.trains := [{ demoTrain 118 .inService 10 with trip := some 301, deviation := d, delayEntry := e }] }
    (demo.srg.offThreshold < demo.srg.onThreshold) ∧
    (((delayRule 118 (late demo.srg.onThreshold none)).train? 118).map (·.delayEntry) = some (some 2)) ∧
    ((late demo.srg.onThreshold (some 1)).entry? 1).map (·.withdrawing) = some none ∧
    ((late demo.srg.onThreshold (some 255)).entry? 255).map (·.withdrawing) = some (some .expired) ∧
    delayRule 118 (late (demo.srg.onThreshold - 1) (some 1)) = late (demo.srg.onThreshold - 1) (some 1) ∧
    (delayRule 118 (late demo.srg.offThreshold (some 1))).entry? 1 = none := by decide +kernel

theorem witness_takeSample :
    let ran := fun (mark : Nat) => { demo with trk.trains := [{ demoTrain 118 .inService 11 with entryMark := mark, entryMove := true }] }
    (demo.desc.segment? 11).map (fun g => (g.successor, g.platform, g.nominal)) = some (some 12, none, 600) ∧
    (takeSample 118 11 12 false (ran 980)).learned 11 = 550 ∧ (takeSample 118 11 12 false (ran 820)).learned 11 = 660 ∧
    takeSample 118 11 12 false (ran 981) = ran 981 ∧ takeSample 118 11 12 true (ran 980) = ran 980 := by decide +kernel

theorem witness_authorityEnds :
    (∀ c ∈ [demoCall .waiting, { demoCall .waiting with platform := 4 }], ∀ st ∈ [AuthState.revoking, .unconfirmed],
      let s := { demo with trk.trains := [{ demoTrain 118 .inService 10 with authority := some (demoAuthority st), call := some c }] }
      (s.train? 118).bind (·.authority) = some (demoAuthority st) ∧ (s.train? 118).bind (·.call) = some c ∧
        (dropGrant 118 (s.modTrain 118 fun r => { r with authority := none })).grant? 118 = none) ∧
    demo.platformUnit 2 = 200 ∧ demo.grant? 118 = none ∧ (lawful.grant? 118).isSome ∧
    ((authorised (demoAuthority .revoking)).trk.trains.find? fun t => (t.authority.map (·.id)) == some 7).isSome ∧
    demo.trk.trains.find? (fun t => (t.authority.map (·.id)) == some 7) = none := by decide +kernel

theorem test_revokeEcho :
    ((takeRevokeEcho 200 [7, 0] (authorised (demoAuthority .revoking))).train? 118).map (·.authority) = some none ∧
    takeRevokeEcho 200 [7, 2] (authorised (demoAuthority .revoking)) = authorised (demoAuthority .revoking) ∧
    takeRevokeEcho 201 [7, 1] (authorised (demoAuthority .revoking)) = authorised (demoAuthority .revoking) ∧
    takeRevokeEcho 200 [7, 1] (authorised (demoAuthority .issued)) = authorised (demoAuthority .issued) := by decide +kernel

theorem witness_evaluateMany : waiting.waitingSection? 118 = some 1 ∧ (evaluateCall 118 waiting).1 = .settled ∧
    (evaluateCall 118 { waiting with tpc.sections := [{ demoSection 1 .energised with budget := 0 }] }).1 = .noGrant 1 := by
  decide +kernel

/-- The test line with a sequence that waits for its CLOSE of breaker 5, and some commands. -/
def sequencing (queue : List Cmd) : State :=
  { demo with
    tpc.sections := [{ demoSection 1 .energising with seq := some { origin := .reclose, running := some (.command 5), closed := [] } },
                     demoSection 2 .dead]
    tpc.queue := queue }

theorem witness_takeReport :
    (let s := sequencing []
     (s.runningSeqs.find? fun q => q.2 == .command 5) = some (1, .command 5) ∧ s.closeCmd? 5 = none ∧
       (s.runningSeqs.find? fun q => q.2 == .command 6) = none ∧ (s.sec? 1).bind (·.seq) ≠ none) ∧ demo.sec? 1 ≠ none ∧
    (demo.sec? 1).bind (·.seq) = none ∧
    ((failSeq 1 .failedVoltage (sequencing [])).sec? 1).map (fun r => (r.state, r.seq, r.lastSeq)) =
      some (.dead, none, some .failedVoltage) ∧
    ((abandonSeq 1 (sequencing [])).sec? 1).map (·.seq) = some none := by decide +kernel

theorem witness_selectEcho :
    (demo.inFlightOf 300 = none) ∧
    (∀ ph ∈ [CmdPhase.selecting, .selected],
      ({ demo with tpc.queue := [demoCmd 5 ph none] }.inFlightOf 300) = some (demoCmd 5 ph none)) ∧ demo.breakerNumber 5 = 1 ∧
    (takeSelectEcho 300 [1, 0, 255] { demo with tpc.queue := [demoCmd 5 .selecting none] }).tpc.queue.map (·.phase) = [.selected] ∧
    (takeSelectEcho 300 [1, 1, 255] { demo with tpc.queue := [demoCmd 5 .selecting none] }).tpc.queue = [] ∧
    (takeSelectEcho 300 [17, 0, 255] demo = demo) ∧ (takeSelectEcho 300 [16, 0, 255] demo).wlc.outQueue.length = 1 ∧
    demo.wlc.outQueue.length < 32 := by decide +kernel

theorem witness_frameOutcomes :
    (demoFrame 1 true true false).withdrawing = true ∧ (demoFrame 1 true false false).withdrawing = false ∧
    (let s := { demo with tpc.queue := [demoCmd 5 .selecting none] }
     let f := { demoFrame 1 true false false with dest := 300 }
     (selectOutcome f 1 255 .delivered s).tpc.queue.map (·.window) = [some 1008] ∧ (selectOutcome f 1 255 .failed s).tpc.queue = [] ∧
       selectOutcome f 1 254 .failed s = s) ∧
    (let s := { demo with tpc.queue := [demoCmd 5 .selected none] }
     let f := { demoFrame 1 true false false with dest := 300 }
     (operateOutcome f 255 .delivered s).brkState? 5 = some (.moving .opened 1005 .operator) ∧
       (operateOutcome f 255 .failed s).tpc.queue = [] ∧ operateOutcome f 254 .failed s = s) := by decide +kernel

theorem witness_powerStatus :
    readPowerStatus [] = none ∧ readPowerStatus [0] = none ∧ readPowerStatus [1, 0x0d] = some [⟨1, true, true, 1⟩] ∧
    (readPowerStatus (16 :: List.replicate 16 0xff)).isSome ∧ readPowerStatus (17 :: List.replicate 17 0) = none ∧
    (breakerEntries demoLine 300 [⟨2, false, true, 1⟩, ⟨1, true, false, 2⟩, ⟨4, true, false, 2⟩, ⟨3, true, false, 3⟩]).map
      (fun e => (e.breaker, e.voltage)) = [(5, some true), (6, some false), (7, none)] ∧
    demo.brkState? 5 = some .closed ∧ demo.brkState? 8 = none ∧ demo.brkMoving 5 = false ∧
    (let s := { demo with tpc.breakers := [⟨5, .moving .closed 1005 .operator, none, none, none, none⟩] }
     s.brkState? 5 = some (.moving .closed 1005 .operator) ∧
     (passBreakers ⟨5, true, false, none⟩ s).brkState? 5 = some .closed ∧ (passBreakers ⟨5, false, true, none⟩ s).brkState? 5 = some .opened ∧
       (passBreakers ⟨5, false, false, none⟩ s).brkState? 5 = s.brkState? 5) := by decide +kernel

theorem witness_takeTrip :
    demo.desc.breaker? 8 = none ∧ (demo.desc.breaker? 7).map (·.kind) = some .tie ∧ (demo.desc.breaker? 5).map (·.kind) = some .feeder ∧
    ((takeTrip 5 demo).sec? 1).map (fun r => (r.state, r.lockout, r.reclose)) = some (.tripped, false, some 1030) ∧
    ((takeTrip 5 (sectioned fun r => { r with state := .energised, span := some 1100 })).sec? 1).map (fun r => (r.state, r.lockout)) =
      some (.tripped, true) ∧
    demo.recloseAllowed 1 = true ∧ demo.derivedVoltage 1 = .unknown ∧
    { demo with tpc.breakers := [⟨5, .closed, none, some .closed, some true, none⟩] }.derivedVoltage 1 = .present ∧
    { demo with tpc.breakers := [⟨5, .closed, none, some .closed, some false, none⟩] }.derivedVoltage 1 = .absent ∧
    demo.budgetNow 1 = 8 ∧ demo.budgetNow 2 = 0 := by decide +kernel

theorem witness_releaseGrant : demo.grant? 118 = none ∧
    (let s := { lawful with trk.trains := [{ demoTrain 118 .inService 10 with authority := some (demoAuthority .issued), holds := [.operator] }] }
     (s.train? 118).map (·.holds) = some [.operator] ∧ s.grant? 118 ≠ none ∧ (releaseGrant 118 s).grant? 118 = none ∧
       ((releaseGrant 118 s).train? 118).map (fun t => t.authority.map (·.state)) = some (some .revoking)) ∧
    (let s := { permitted .isolating with tpc.isolations := [⟨2, .confirming 9⟩] }
     s.isolation? 2 = some ⟨2, .confirming 9⟩ ∧ (s.tpc.permits.map (·.id)).Nodup ∧
       (failIsolation 2 (.failedVoltage .present) s).tpc.permits.map (·.state) = [.ended]) := by decide +kernel

theorem witness_cancelSelect : demo.wlc.outQueue.length < 32 ∧
    32 ≤ ({ demo with wlc.outQueue := List.replicate 32 (playFrame 1) }).wlc.outQueue.length ∧
    (∀ ph ∈ [CmdPhase.selecting, .selected],
      let s := { demo with tpc.queue := [demoCmd 5 ph (some 1000)] }
      (selectWindowExpire (demoCmd 5 ph (some 1000)) s).tpc.queue = [] ∧
        ((selectWindowExpire (demoCmd 5 ph (some 1000)) s).brk? 5).map (·.outcome) = some (some .lapsed)) := by decide +kernel

theorem witness_permitCase :
    (∀ st ∈ [SectionState.energised, .energising, .dead, .tripped], demo.permitCase (demoSection 2 st) = .begin_ true) ∧
    (∀ st ∈ [SectionState.isolating, .isolated], demo.permitCase (demoSection 2 st) = .record) ∧
    demo.permitCase (demoSection 2 .held) = .begin_ false ∧ (permitted .issued).permitCase (demoSection 2 .held) = .record ∧
    { demo with tpc.isolations := [⟨2, .confirming 9⟩] }.permitCase (demoSection 2 .held) = .join .isolating := by decide +kernel

theorem witness_resolve :
    locationKnown demoLine (.segment 127) = false ∧ demoLine.station? 1 ≠ none ∧ demoLine.section? 2 ≠ none ∧
    (demoLine.unit? 400).map (·.kind) = some .station ∧ demoLine.unitStation? 400 = some 1 ∧
    { demoLine with stations := [] }.unitStation? 400 = none ∧ (demoLine.unit? 200).map (·.kind) = some .track ∧
    (demoLine.unit? 300).map (·.kind) = some .power ∧ (demoLine.segment? 11).map (·.platform) = some none ∧
    (demoLine.segment? 10).map (·.platform) = some (some 2) ∧ (resolve demoLine (.segment 11)).stations = [1, 2] ∧
    (resolve demoLine (.powerSection 2)).starts = [12] ∧ (resolve demoLine (.unit 300)).sections = [1, 2] := by decide +kernel

theorem witness_release :
    (∀ p ∈ [0, 63], (releaseLink .holdPlatform (some p)).toOption = some (.holdPlatform p)) ∧
    (∀ n ∈ [1, 999], (releaseLink .holdTrain (some n)).toOption = some (.holdTrain n)) ∧
    (∀ x ∈ [0, 23], (releaseLink .deenergise (some x)).toOption = some (.deenergise x)) ∧
    (∀ e ∈ [1, 255], (releaseLink .announce (some e)).toOption = some (.announce e)) ∧
    (lawful.train? 301).map (·.holds) = some [.incident 1] ∧
    ((liftAction 1 (.holdTrain 301) lawful).train? 301).map (·.holds) = some [] ∧
    (lawful.entry? 1).map (·.origin) = some (.incident 1) ∧ (demo.entry? 1).map (·.origin) = some .operator ∧ demo.entry? 2 = none := by
  decide +kernel

theorem witness_withdrawEntry :
    demo.entry? 2 = none ∧ (demo.entry? 255).map (·.withdrawing) = some (some .expired) ∧
    (demo.entry? 1).map (fun e => (e.withdrawing, e.deliveries.map (·.state))) = some (none, [.pending]) ∧
    (withdrawEntry 1 .withdrawn demo).entry? 1 = none ∧ (checkEntry 255 demo).entry? 255 = none ∧ checkEntry 1 demo = demo ∧
    ((withdrawEntry 1 .withdrawn lawful).entry? 1).map (fun e => e.deliveries.map (·.state)) = some [.stopping] ∧
    (withdrawEntry 1 .withdrawn lawful).zoneState? 1 = some (.stopping 1 true none 1100) := by decide +kernel

theorem witness_posts :
    (∃ id v, (postEntry (demoPost [1] .service) (spoken demoLine.stations [])).1 = .made id v) ∧
    (postEntry (demoPost [] .service) demo).1 = .noStation ∧
    (postEntry (demoPost [1] .information) (crowded none)).1 = .full ∧ demo.desc.platformsAhead 11 = [4] ∧
    (let s := { demo with ans.zones := [⟨1, .idle, none⟩, ⟨2, .playing 255 false true 1100, none⟩] }
     (arrivalEntries 118 11 s).ans.entries.length = 3 ∧ (dropArrivals 118 (arrivalEntries 118 11 s)).ans.entries.length = 2) :=
  ⟨⟨1, none, by decide +kernel⟩, by decide +kernel, by decide +kernel, by decide +kernel, by decide +kernel⟩

theorem witness_plays :
    (zoned .idle).zone? 1 = some ⟨1, .idle, none⟩ ∧ demo.entry? 2 = none ∧ demo.desc.unitStation? 400 = some 1 ∧
    demo.desc.unitStation? 300 = none ∧
    (∀ o : Octet, o.toNat ≤ 2 → (playReport 400 [1, o] lawful).zoneState? 1 ≠ lawful.zoneState? 1) ∧
    playReport 400 [1, 3] lawful = lawful ∧ playReport 400 [2, 0] lawful = lawful ∧
    stationReport 400 [2, 0] lawful = lawful ∧ (stationReport 400 [1, 1] lawful).zoneState? 1 = some .local_ ∧
    (stationReport 401 [0, 0] lawful).zoneState? 2 = some .idle ∧
    ((stationReport 400 [0, 7] (zoned (.stopping 1 true none 1100))).zoneState? 1).isSome ∧
    (playFrame 1).dest = 400 ∧ (playFrame 1).withdrawing = false ∧
    (playOutcome (playFrame 1) 1 .delivered (zoned (.stopping 1 false none 1100))).zoneState? 1 = some (.stopping 1 true none 1100) ∧
    (playOutcome (playFrame 1) 1 .delivered (zoned (.playing 1 false false 1100))).zoneState? 1 = some (.playing 1 false true 1100) := by
  decide +kernel

/-! ### What settles at the end of a step, and what a change sets off -/

theorem witness_recordAtFault :
    let d := { Description.empty with stations := [⟨1, 100, true, 400, true⟩] }
    let s := ask "1 LINE_LOAD_COMMIT" { loading with lmc.staged := d }
    due (.lineLoadCommit 1) s ∧ s.lmc.session = .opened ∧
      ∃ x b, Safety.descriptionTests s.lmc.staged = [] ++ x :: b ∧ (∀ y ∈ ([] : List Safety.DescriptionTest), y.holds) ∧ ¬ x.holds :=
  ⟨by decide +kernel, rfl, _, _, rfl, nofun, by rintro ⟨u, h, -⟩; cases h⟩

theorem witness_reportFrame :
    (let f := { demoFrame 2 false false false with dest := 1023, body := .revokeAll }
     ({ demo with wlc.revokeAllPosts := 1 }).wlc.revokeAllPosts < 2 ∧ 2 ≤ ({ demo with wlc.revokeAllPosts := 2 }).wlc.revokeAllPosts ∧
       (reportFrame f .failed { demo with wlc.revokeAllPosts := 1 }).wlc.outQueue.map (·.body) = [.revokeAll] ∧
       (reportFrame f .failed { demo with wlc.revokeAllPosts := 2 }).clp.flags.get .unit = true ∧
       reportFrame f .delivered demo = demo) ∧
    (reportFrame { demoFrame 2 false false false with dest := 400, body := .display 4 ⟨none, none, true, []⟩ } .failed
      { demo with ans.displays := [⟨4, some ⟨none, none, true, []⟩, none⟩] }).ans.displays = [⟨4, none, none⟩] := by decide +kernel

/-- The test line with a command of the power unit in the queue and an OPEN owed at one of its breakers. -/
def owing : State :=
  { demo with
    wlc.outQueue := [{ demoFrame 0 true false false with dest := 300, body := .cancelSelect 1 0 },
                     { demoFrame 0 false false false with dest := 300, body := .operate 1 255 }]
    tpc.breakers := [⟨5, .closed, none, some .closed, some true, none⟩, ⟨6, .moving .opened 1005 .operator, none, none, none, none⟩,
                     ⟨7, .closed, none, none, none, some .isolation⟩]
    tpc.queue := [demoCmd 5 .selected none] }

theorem witness_powerUnitStale :
    owing.unitRec? 300 = some (demoUnit 300 .power .live) ∧ (∃ c ∈ owing.tpc.queue, c.unit = 300) ∧
    7 ∈ owing.desc.unitBreakers 300 ∧ (owing.brk? 7).bind (·.owed) = some .isolation ∧
    (owing.brk? 6).map (·.state) = some (.moving .opened 1005 .operator) ∧
    (let t := goStale 300 (.unit 300) owing
     t.wlc.outQueue.map (fun f => (f.body, f.removing)) = [(.cancelSelect 1 0, true)] ∧ t.tpc.queue = [] ∧
       t.tpc.breakers.map (fun r => (r.outcome, r.owed, r.position)) = List.replicate 3 (some .failedDelivery, none, none)) := by
  decide +kernel

theorem witness_stallExpire :
    stallDue demo { demoTrain 118 .positioning 11 with stallBase := some (1000 - demo.trk.stallLimit) } = true ∧
    stallDue demo { demoTrain 118 .positioning 11 with stallBase := some (1001 - demo.trk.stallLimit) } = false ∧
    demo.train? 1 = none ∧ (demo.train? 118).map (·.stallMark) = some none ∧
    (let s := { demo with trk.trains := [{ demoTrain 118 .positioning 11 with stallBase := some 900, stallMark := some 11 }] }
     (s.train? 118).map (·.stallMark) = some (some 11) ∧ (stallExpire 118 s).inm = s.inm) ∧
    ((stallExpire 118 demo).train? 118).map (·.stallMark) = some (some 10) := by decide +kernel

theorem witness_rebuildTrips :
    Keyed lawful ∧ (lawful.train? 118).bind (·.trip) = some 301 ∧ (lawful.train? 301).map (·.trip) = some none ∧
    ((rebuildTrips lawful).train? 118).map (fun t => (t.trip, t.state)) = some (none, .positioning) ∧
    demo.activeTrips[0]? = some (demoTrip 300 40600) ∧
    (rebuildTrips demo).srg.trips.map (fun r => (r.status, r.cause)) = [(.pending, none), (.pending, none)] ∧
    (rebuildTrips { demo with lmc.lineTime := 40900 }).srg.trips.map (·.status) = [.lapsed, .pending] ∧
    (rebuildTrips { demo with lmc.lineTime := 40900, lmc.timeSet := false }).srg.trips.map (·.status) = [.pending, .pending] ∧
    (rebuildTrips { demo with lmc.working.stations := [⟨1, 100, true, 400, true⟩] }).srg.trips.map (fun r => (r.status, r.cause)) =
      [(.cancelled, some .line), (.cancelled, some .line)] :=
  ⟨witness_sound.keyed, by decide, by decide, by decide +kernel, by decide, by decide +kernel, by decide +kernel, by decide +kernel,
    by decide +kernel⟩

theorem witness_setIndices : (demo.setIndices (some 0) (some 3)).lst.inFlight = some (.indexWrite (some 0) (some 3)) ∧
    (demo.setIndices none none).clp.flags.get .store = true := by decide +kernel

/-- A train WAITING at the first platform under some holds of its own and of the platform. -/
def holding (train platform : List HoldReason) : State :=
  { waiting with trk.trains := waiting.trk.trains.map fun t => { t with holds := train }, srg.plats := [⟨2, platform, none⟩, ⟨4, [], none⟩] }

theorem witness_holdRemoved :
    (let s := holding [.operator] []
     (s.train? 118).map (·.holds) = some [.operator] ∧ ((s.train? 118).bind (·.call)).map (·.phase) = some .waiting ∧
       removeTrainHold 118 (.incident 1) s = s ∧
       ((removeTrainHold 118 .operator s).train? 118).map (fun t => t.authority.isSome) = some true) ∧
    (let s := holding [.operator, .incident 1] []
     ((removeTrainHold 118 .operator s).train? 118).map (fun t => (t.holds, t.authority)) = some ([.incident 1], none)) ∧
    (let s := holding [] [.operator]
     s.plat? 2 = some ⟨2, [.operator], none⟩ ∧ removePlatformHold 2 (.incident 1) s = s ∧
       ((removePlatformHold 2 .operator s).train? 118).map (fun t => t.authority.isSome) = some true) ∧
    (let s := { waiting with wlc.outQueue := List.replicate 32 (playFrame 1) }
     (evaluateCall 118 s).1 = .noRoom 1 ∧ (evaluate 118 s).tpc.grants = []) := by decide +kernel

/-- The test line with its first section's sequence at a step. -/
def stepping (st : SeqStep) : State :=
  { sequencing [] with
    tpc.sections := [{ demoSection 1 .energising with seq := some { origin := .reclose, running := some st, closed := [] } }, demoSection 2 .dead] }

/-- The test line with its first breaker in a state. -/
def standing5 (b : BreakerState) (s : State) : State :=
  { s with tpc.breakers := [⟨5, b, none, none, none, none⟩, ⟨6, .opened, none, none, none, none⟩] }

theorem witness_seqMove :
    (let s := stepping (.placing 5)
     s.tpc.queue.length < 16 ∧ s.lmc.mode ≠ .survey ∧ (∀ y ∈ s.desc.sectionsFed 5, s.secState? y ≠ some .held ∧ s.permitOpen y = false) ∧
       (seqMove? s (1, .placing 5)).map (fun t => t.tpc.queue.map (·.breaker)) = some [5]) ∧
    seqMove? { stepping (.placing 5) with lmc.mode := .survey } (1, .placing 5) = none ∧
    (demo.voltage 1 = .present ∧ (seqMove? (stepping (.confirm 1010)) (1, .confirm 1010)).map (fun t => t.secState? 1) = some (some .energised)) ∧
    demo.desc.feedersOf 1 = [5] ∧
    (demo.brkState? 5 = some .closed ∧ (advanceSeq 1 none demo) = setStep 1 (.confirm 1010) demo) ∧
    (let s := standing5 .opened demo
     s.brkState? 5 ≠ some .closed ∧ advanceSeq 1 none s = setStep 1 (.placing 5) s) ∧
    (let s := standing5 .opened demo
     advanceSeq 1 (some 5) s = setStep 1 (.confirm 1010) s) ∧
    ((stepping (.placing 5)).sec? 1).bind (·.seq) = some { origin := .reclose, running := some (.placing 5), closed := [] } := by
  decide +kernel

/-- A section whose sequence entry waits. -/
def awaiting (x : Nat) (o : SeqOrigin) : SecRec := { demoSection x .dead with seq := some { origin := o, running := none, closed := [] } }

theorem witness_nextSeq :
    (let s := { demo with tpc.sections := [demoSection 1 .energised, awaiting 2 .reclose] }
     s.nextSeq? = some (awaiting 2 .reclose) ∧
       ((startSeq (awaiting 2 .reclose) s).sec? 2).map (fun r => (r.state, r.span)) = some (.energising, some 1060)) ∧
    demo.nextSeq? = none ∧
    (let run := fun x => { demoSection x .energising with seq := some { origin := .operator, running := some (.command 5), closed := [] } }
     { demo with tpc.sections := [run 1, run 2, awaiting 3 .all] }.nextSeq? = none) := by decide +kernel

theorem witness_changeSection :
    demo.sec? 1 = some (demoSection 1 .energised) ∧ demo.desc.platformsInto 1 = [2] ∧
    (changeSection 1 .dead demo).platHolds 2 = [.power 1] ∧
    (changeSection 1 .energised (changeSection 1 .dead demo)).platHolds 2 = [] ∧
    (changeSection 2 .held demo).lmc.heldCount = 1 ∧ (changeSection 2 .held demo).clp.flags.get .mode = true ∧
    ((changeSection 2 .unknown { demo with tpc.sections := [demoSection 1 .energised, awaiting 2 .all] }).sec? 2).map (·.seq) = some none ∧
    (changeSection 1 .held { demo with tpc.queue := [{ demoCmd 5 .queued none with action := .closing }] }).tpc.queue = [] := by
  decide +kernel

/-- The test line with an isolation of its second section at a phase, and a permit that waits for it. -/
def isolating (p : IsoPhase) (st : PermitState) : State :=
  { permitted st with tpc.isolations := [⟨2, p⟩], trk.trains := [], trk.segs := demo.trk.segs.map fun r => { r with occ := .clear } }

theorem witness_isolationMove :
    (let s := isolating .clearing .requested
     s.sectionClear 2 = true ∧ (isolationMove? s ⟨2, .clearing⟩).map (fun t => (t.tpc.isolations, t.tpc.permits.map (·.state))) =
       some ([⟨2, .opening []⟩], [.isolating])) ∧
    ({ isolating .clearing .requested with trk.trains := [demoTrain 301 .stabled 13] }).sectionClear 2 = false ∧
    (isolationMove? (isolating (.opening []) .isolating) ⟨2, .opening []⟩).map (·.tpc.isolations) = some [⟨2, .confirming 1010⟩] ∧
    isolationMove? (isolating (.opening [6]) .isolating) ⟨2, .opening [6]⟩ = none ∧
    (let s := { isolating (.confirming 1010) .isolating with tpc.sections := [{ demoSection 2 .isolating with voltage := .absent }] }
     s.voltage 2 = .absent ∧ (isolationMove? s ⟨2, .confirming 1010⟩).map (fun t => (t.tpc.isolations, t.tpc.permits.map (·.state))) =
       some ([], [.recording])) ∧
    isolationMove? (isolating (.confirming 1010) .isolating) ⟨2, .confirming 1010⟩ = none ∧
    (let s := isolating .clearing .ended
     s.isolation? 2 = some ⟨2, .clearing⟩ ∧ (∀ p ∈ s.openPermits 2, p.isolated = false) ∧
       (stopIsolation 2 { s with tpc.breakers := s.tpc.breakers.map fun r => { r with state := .closed } }).tpc.queue.map (·.breaker) =
         [6, 7]) := by decide +kernel

/-- A table of sixteen permits, all but some of them ENDED, the one at place 3 the earliest. -/
def ended (open_ : List Nat) : State :=
  { demo with tpc.permits := (List.range 16).map fun n =>
      { demoPermit n (n + 1) 2 (if n ∈ open_ then .issued else .ended) with ended := some (if n = 3 then 39000 else 39001) } }

theorem witness_permitPlace :
    (permitted .issued).permitPlace.map (·.1) = some 0 ∧ (∀ n, n < 16 → ∃ p ∈ (ended []).tpc.permits, p.place = n) ∧
    (ended []).permitPlace.map (fun r => (r.1, r.2.tpc.permits.length)) = some (3, 15) ∧
    (ended [3]).permitPlace.map (·.1) = some 0 ∧ (ended (List.range 16)).permitPlace = none := by decide +kernel

theorem witness_announceFaults :
    (due (.announce 1 {}) (ask "1 ANNOUNCE" demo) ∧ Safety.firstAtFault (Safety.postTests {}) = some "template") ∧
    (let f := postFields 255 (.stations [31])
     due (.announce 1 f) (ask (postText "255" "31") demo) ∧ Safety.firstAtFault (Safety.postTests f) = none ∧
       demo.desc.station? 31 = none) ∧
    (let f := { postFields 255 .all with station := some 31 }
     due (.announce 1 f) (ask "1 ANNOUNCE template=255 station=31 priority=SERVICE scope=ALL repeat=1 display_flag=NO" demo) ∧
       Safety.firstAtFault (Safety.postTests f) = none) ∧
    Safety.firstAtFault (Safety.postTests (postFields 255 (.stations []))) = some "scope" ∧
    Safety.firstAtFault (Safety.postTests (postFields 255 (.stations [32]))) = some "scope" ∧
    Safety.firstAtFault (Safety.postTests { postFields 255 .all with interval := some 10 }) = some "repeat_interval" := by decide +kernel

theorem witness_tpcMove :
    tpcMove? demo = none ∧
    (let r : Report := { breaker := 5, action := .opening, origin := .operator, outcome := .done, waiting := [] }
     { demo with tpc.reports := [r] }.tpc.reports = r :: []) ∧
    (owing.tpc.queue.length < 16 ∧ (∃ r ∈ owing.tpc.breakers, r.owed ≠ none) ∧
      (tpcMove? owing).map (fun t => t.tpc.queue.map (·.breaker)) = some [5, 7]) ∧
    (let s := stepping (.placing 5)
     s.runningSeqs = [(1, .placing 5)] ∧ s.tpc.reports = [] ∧ seqMove? s (1, .placing 5) ≠ none ∧ tpcMove? s = seqMove? s (1, .placing 5)) ∧
    (let s := { demo with tpc.queue := [demoCmd 5 .queued none, demoCmd 6 .queued none] }
     s.startable? = some (demoCmd 5 .queued none) ∧ tpcMove? s = some (startCmd (demoCmd 5 .queued none) s) ∧
       s.conclude.wlc.outQueue.map (·.body) = [.select 1 .opening 0]) ∧
    { demo with tpc.queue := [demoCmd 5 .selected none, demoCmd 6 .queued none] }.startable? = none ∧
    { owing with tpc.queue := [demoCmd 6 .queued none] }.startable? = none ∧
    (let s := { demo with wlc.outQueue := List.replicate 32 (playFrame 1), tpc.queue := [demoCmd 5 .queued none] }
     (startCmd (demoCmd 5 .queued none) s).tpc.queue = [] ∧ (startCmd (demoCmd 5 .queued none) s).tpc.reports.map (·.outcome) = [.failedDelivery]) ∧
    (let s := isolating .clearing .requested
     isolationMove? s ⟨2, .clearing⟩ ≠ none ∧ tpcMove? s = isolationMove? s ⟨2, .clearing⟩) := by decide +kernel

theorem witness_placeOwed :
    (placeOwed owing).tpc.queue.map (·.breaker) = [5, 7] ∧ (placeOwed owing).tpc.breakers.map (·.owed) = [none, none, none] ∧
    (placeOwed { owing with tpc.queue := List.replicate 16 (demoCmd 5 .queued none) }).tpc.breakers.map (·.owed) =
      [none, none, some .isolation] ∧
    (cancelCmd (demoCmd 5 .selected none) owing).wlc.outQueue.map (·.body) = [.cancelSelect 1 0, .cancelSelect 1 255] ∧
    (cancelCmd (demoCmd 5 .queued none) { owing with tpc.queue := [demoCmd 5 .queued none] }).wlc.outQueue = owing.wlc.outQueue := by
  decide +kernel

theorem witness_polls :
    let owed := fun q => { demo with wlc.outQueue := q, wlc.registry := [demoUnit 200 .track .live, { demoUnit 300 .power .live with pollPending := true }] }
    (owed []).polls.wlc.outQueue.map (fun f => (f.dest, f.body)) = [(300, .poll)] ∧
    (owed []).polls.wlc.registry.map (·.pollPending) = [false, false] ∧
    (owed (List.replicate 23 (playFrame 1))).polls.wlc.outQueue.length = 24 ∧
    (owed (List.replicate 24 (playFrame 1))).polls = owed (List.replicate 24 (playFrame 1)) ∧ demo.polls = demo := by decide +kernel

theorem witness_storeNext :
    let listed := fun (p o : List StoreOp) (due : Bool) => { demo with lst.permitList := p, lst.otherList := o, lst.indexDue := due }
    (flying (.permitErase 1)).startOp = flying (.permitErase 1) ∧
    (listed [.permitErase 1] [.indexWrite] false).startOp.lst.inFlight = some (.permitErase 1) ∧
    (listed [] [.commit 1, .indexWrite] false).startOp.lst.inFlight = some (.commitPage 1) ∧
    (listed [] [.commit 1, .indexWrite] false).startOp.lst.otherList = [.commit 1, .indexWrite] ∧
    (listed [] [.templateWrite 1 []] true).storeNext.lst.otherList = [.indexWrite] ∧
    (listed [] (List.replicate 5 (.templateWrite 1 [])) true).storeNext.lst.indexDue = true ∧
    (listed [] [] true).storeNext.lst.inFlight = some (.indexWrite (some 0) none) ∧
    (listed [] [.templateWrite 1 [], .indexWrite] true).storeNext.lst.indexDue = false := by decide +kernel

/-- The test line in SURVEY with the last unit UNHEARD and the index of a slot in force. -/
def nearlyHeard : State :=
  { surveyed with wlc.registry := [demoUnit 200 .track .live, demoUnit 300 .power .unheard], tpc.sections := [demoSection 1 .unknown] }

theorem witness_readiness :
    (nearlyHeard.updateReadiness.lmc.readiness, surveyed.updateReadiness.lmc.readiness) = (some .notReady, some .dayReady) ∧
    { surveyed with lmc.timeSet := false }.updateReadiness.lmc.readiness = some .nightReady ∧
    { demo with lmc.readiness := some .dayReady }.updateReadiness.lmc.readiness = none ∧
    nearlyHeard.unitRec? 300 = some (demoUnit 300 .power .unheard) ∧ (surveyed.clearFlag .mode).updateReadiness.clp.flags.get .mode = true := by
  decide +kernel

/-- The POWER_STATUS of the last UNHEARD unit passes NIGHT_READY on the way to DAY_READY, and the MODE notice gives the first (log 76). -/
theorem test_readiness_each_change :
    let s := { nearlyHeard.clearFlag .mode with clp.sent := [], wlc.inBuffer := [unitFrame 300 18 [2, 0x09, 0x19]] }
    let t := after .powerStatus s
    t.lmc.readiness = some .dayReady ∧ t.clp.sent.head? = some (.notice .mode { s with lmc.readiness := some .nightReady }.modeSummary) := by decide +kernel

end Sys2Proof.Tests
end

section
/-!
SUPPORT. What leaves the pattern set ARMED or UNARMED as it was (R36): everything that stays within, the operations of the blocks, the
handling of the link's frames; and the start of the link, which leaves it UNARMED (R40).
-/

namespace Sys2Proof.Proofs.Arming

open Sys2Proof.Machine Sys2Proof.Safety Sys2Proof.Laws

variable {s t u : State}

/-- What stays within keeps the arming. The lemmas below give this for single operations, so that they rewrite from any state. -/
theorem armed_of_within (h : Within s t) : t.wlc.armed = s.wlc.armed := congrArg Standing.armed h.standing

/-! ### The line mode, the notices and the store -/

@[simp] theorem conclude_armed (s : State) : s.conclude.wlc.armed = s.wlc.armed :=
  armed_of_within (conclude_within (within_refl s))

@[simp] theorem notice_armed (k : NoticeKind) (l : List Field) (s : State) : (s.notice k l).wlc.armed = s.wlc.armed :=
  armed_of_within (notice_within k l (within_refl s))

@[simp] theorem modeNotice_armed (s : State) : s.modeNotice.wlc.armed = s.wlc.armed :=
  armed_of_within (modeNotice_within (within_refl s))

@[simp] theorem reportHeld_armed (s : State) : s.reportHeld.wlc.armed = s.wlc.armed :=
  armed_of_within (reportHeld_within (within_refl s))

@[simp] theorem updateReadiness_armed (s : State) : s.updateReadiness.wlc.armed = s.wlc.armed :=
  armed_of_within (updateReadiness_within (within_refl s))

@[simp] theorem storeNotice_armed (region : String) (entry : Value) (what : String) (s : State) :
    (s.storeNotice region entry what).wlc.armed = s.wlc.armed :=
  armed_of_within (storeNotice_within region entry what (within_refl s))

@[simp] theorem slotNotice_armed (i : Nat) (s : State) : (s.slotNotice i).wlc.armed = s.wlc.armed :=
  armed_of_within (slotNotice_within i (within_refl s))

@[simp] theorem incidentNotice_armed (id : Nat) (s : State) : (s.incidentNotice id).wlc.armed = s.wlc.armed :=
  armed_of_within (incidentNotice_within id (within_refl s))

@[simp] theorem permitNotice_armed (id : Nat) (s : State) : (s.permitNotice id).wlc.armed = s.wlc.armed :=
  armed_of_within (permitNotice_within id (within_refl s))

@[simp] theorem startOp_armed (s : State) : s.startOp.wlc.armed = s.wlc.armed :=
  armed_of_within (startOp_within (within_refl s))

@[simp] theorem placeIndex_armed (s : State) : s.placeIndex.wlc.armed = s.wlc.armed :=
  armed_of_within (placeIndex_within (within_refl s))

@[simp] theorem placeOtherOp_armed (op : StoreOp) (s : State) : (s.placeOtherOp op).wlc.armed = s.wlc.armed := startOp_armed _

@[simp] theorem setIndices_armed (a b : Option Nat) (s : State) : (s.setIndices a b).wlc.armed = s.wlc.armed := by
  simp [State.setIndices]

/-- One thing after another for each member of a list. -/
theorem forEach_armed {α : Type} (l : List α) (f : α → State → State) (s : State)
    (k : ∀ x v, (f x v).wlc.armed = v.wlc.armed) : (forEach l f s).wlc.armed = s.wlc.armed := by
  induction l generalizing s with
  | nil => rfl
  | cons x l ih => exact (ih (f x s)).trans (k x s)

/-! ### Trips and the change of mode -/

@[simp] theorem rebuildTrips_armed (s : State) : (rebuildTrips s).wlc.armed = s.wlc.armed :=
  armed_of_within (rebuildTrips_within (within_refl s))

@[simp] theorem lapseTrips_armed (s : State) : (lapseTrips s).wlc.armed = s.wlc.armed :=
  armed_of_within (lapseTrips_within (within_refl s))

@[simp] theorem takeBoundary_armed (s : State) : (takeBoundary s).wlc.armed = s.wlc.armed := by
  unfold takeBoundary
  cases s.lst.scheduled <;> simp

theorem setEscalation_armed (flag : Option Bool) (s : State) : (setEscalation flag s).wlc.armed = s.wlc.armed := by
  unfold setEscalation
  split
  · rfl
  · split
    · rfl
    · exact modeNotice_armed _

/-- A change of mode makes SPENT entries READY, which keeps the arming; the other blocks stay within. -/
theorem modeChange_armed (new : Mode) (cause : ModeCause) (incident : Option Nat) (s : State) :
    (modeChange new cause incident s).wlc.armed = s.wlc.armed := by
  have ready (v : State) : (when (isNight s.lmc.mode && !isNight new) readyPatterns v).wlc.armed = v.wlc.armed := by
    unfold when
    split <;> rfl
  have blocks (v : State) : (trackMode s.lmc.mode new (when (new == .nightHeld) nightHold
      (regulateMode s.lmc.mode new v.modeNotice))).wlc.armed = v.wlc.armed :=
    have regulated := regulateMode_within s.lmc.mode new (modeNotice_within (within_refl v))
    armed_of_within (trackMode_within _ _ (when_within _ _ regulated fun _ => nightHold_within regulated))
  unfold modeChange
  exact (armed_of_within (announceMode_within (within_refl _))).trans ((ready _).trans (blocks _))

/-! ### Sections, permits and incidents -/

@[simp] theorem changeSection_armed (x : Nat) (new : SectionState) (s : State) :
    (changeSection x new s).wlc.armed = s.wlc.armed :=
  armed_of_within (changeSection_within x new (within_refl s))

@[simp] theorem setPermit_armed (id : Nat) (f : Permit → Permit) (s : State) : (setPermit id f s).wlc.armed = s.wlc.armed :=
  armed_of_within (setPermit_within id f (within_refl s))

@[simp] theorem endPermit_armed (id : Nat) (o : PermitOutcome) (s : State) : (endPermit id o s).wlc.armed = s.wlc.armed :=
  setPermit_armed ..

@[simp] theorem afterPermit_armed (x : Nat) (s : State) : (afterPermit x s).wlc.armed = s.wlc.armed :=
  armed_of_within (afterPermit_within x (within_refl s))

theorem permitPlace_armed {n : Nat} (e : s.permitPlace = some (n, t)) : t.wlc.armed = s.wlc.armed := by
  unfold State.permitPlace at e
  split at e
  · cases e
    rfl
  · obtain ⟨p, _, k⟩ := Option.map_eq_some_iff.mp e
    cases k
    rfl

theorem makePermit_armed (c : PermitCase) (place id x holder : Nat) (s : State) :
    (makePermit c place id x holder s).wlc.armed = s.wlc.armed := by
  cases c with
  | record => exact armed_of_within (recordPermit_within _ (within_tpc _ (within_refl s) ⟨fun h => h, fun h => h⟩))
  | join st => exact permitNotice_armed ..
  | begin_ isolate =>
    cases isolate
    · exact permitNotice_armed ..
    · exact (changeSection_armed ..).trans ((armed_of_within (clearLockout_within _ (abandonSeq_within _ (within_refl _)))).trans
        (permitNotice_armed ..))

theorem stopIsolation_armed (x : Nat) (s : State) : (stopIsolation x s).wlc.armed = s.wlc.armed := by
  unfold stopIsolation
  split
  · rfl
  · split
    · rfl
    · exact armed_of_within (when_within _ _ (dropIsolation_within x (within_refl s)) fun _ =>
        placeOpens_within x _ (dropIsolation_within x (within_refl s)))

theorem noteRaise_armed (r : Raised) (note : Option Nat) (s : State) : (noteRaise r note s).wlc.armed = s.wlc.armed := by
  unfold noteRaise
  split <;> rfl

theorem liftAction_within (id : Nat) (l : IncLink) (s : State) : Within s (liftAction id l s) := by
  cases l with
  | holdPlatform p => exact removePlatformHold_within p _ (within_refl s)
  | holdTrain n => exact removeTrainHold_within n _ (within_refl s)
  | deenergise x => exact dropClaim_within id x (within_refl s)
  | announce e => exact withdrawOf_within id e (within_refl s)
  | escalate => exact within_refl s

theorem cancelTrip_within (k : Nat) (r : TripState) (s : State) : Within s (cancelTrip k r s) := by
  unfold cancelTrip
  split
  · exact dropDelay_within _ (loseTrip_within _ (setTrip_within k _ _ (within_refl s)))
  · exact setTrip_within k _ _ (within_refl s)

theorem escalationExpire_armed (i : Incident) (s : State) : (escalationExpire i s).wlc.armed = s.wlc.armed := by
  unfold escalationExpire
  split
  · exact (armed_of_within (applyResponse_within i.id (within_refl _))).trans (incidentNotice_armed ..)
  · rfl

theorem playLimitExpire_within (st : Nat) (z : ZoneState) (s : State) : Within s (playLimitExpire st z s) := by
  unfold playLimitExpire
  split
  · exact leavePlaying_within st _ (playDone_within _ st (postOrDrop_within _ _ (within_refl s)))
  · exact confirmStop_within st _ (within_refl s)
  · exact within_refl s

/-! ### Completions of the store's operations -/

theorem permitWritten_armed (r : PermitRecord) (s : State) : (permitWritten r s).wlc.armed = s.wlc.armed := by
  unfold permitWritten
  dsimp only
  split <;> simp

theorem permitWriteFailed_armed (r : PermitRecord) (s : State) : (permitWriteFailed r s).wlc.armed = s.wlc.armed := by
  simp [permitWriteFailed]

theorem permitErased_armed (n : Nat) (s : State) : (permitErased n s).wlc.armed = s.wlc.armed := by
  unfold permitErased
  dsimp only
  split <;> simp

theorem permitEraseFailed_armed (n : Nat) (s : State) : (permitEraseFailed n s).wlc.armed = s.wlc.armed := by
  unfold permitEraseFailed
  dsimp only
  split <;> simp

theorem pageDone_armed (i : Nat) (s : State) : (pageDone i s).wlc.armed = s.wlc.armed := by
  unfold pageDone
  split
  · rfl
  · split
    · rfl
    · exact slotNotice_armed ..

theorem pageFailed_armed (i : Nat) (s : State) : (pageFailed i s).wlc.armed = s.wlc.armed := slotNotice_armed ..

/-! ### The link -/

theorem judgeLine_armed (line : Text) (s : State) : (judgeLine line s).wlc.armed = s.wlc.armed := by
  unfold judgeLine
  (repeat' split) <;> rfl

theorem startTry_armed (rivals : List Rival) (s : State) : (startTry rivals s).wlc.armed = s.wlc.armed := by
  unfold startTry
  (repeat' split) <;> rfl

theorem endTry_armed (mark : Bool) (s : State) : (endTry mark s).wlc.armed = s.wlc.armed := by
  have ended (f : OutFrame) (v : State) : (if mark then tryMarked f v else tryDelivered f v).wlc.armed = v.wlc.armed := by
    cases mark
    · exact armed_of_within (tryDelivered_within f (within_refl v))
    · exact armed_of_within (tryMarked_within f (within_refl v))
  unfold endTry
  split
  · dsimp only
    split
    · rfl
    · split
      · exact ended _ _
      · rfl
  · rfl

theorem receiveFrame_armed (f : WireFrame) (mark : Bool) (s : State) : (receiveFrame f mark s).wlc.armed = s.wlc.armed := by
  unfold receiveFrame
  split
  · rfl
  · dsimp only
    split <;> rfl

theorem patternAct_armed (i : Nat) (p : Pattern) (f : WireFrame) (s : State) : (patternAct i p f s).wlc.armed = s.wlc.armed := by
  have raise (c : IncClass) (n : Nat) (l : Location) (o : RaiseOrigin) (v : State) : (raised c n l o v).wlc.armed = v.wlc.armed :=
    armed_of_within (raised_within c n l o (within_refl v))
  unfold patternAct
  refine (notice_armed ..).trans ?_
  split
  · exact raise ..
  · exact raise ..

theorem matchPatterns_armed (k : InKind) (f : WireFrame) (s : State) : (matchPatterns k f s).wlc.armed = s.wlc.armed := by
  unfold matchPatterns
  split
  · refine forEach_armed _ _ s fun i v => ?_
    split
    · split
      · exact patternAct_armed ..
      · rfl
    · rfl
  · rfl

theorem hear_armed (a : Nat) (s : State) : (hear a s).wlc.armed = s.wlc.armed := armed_of_within (hear_within a (within_refl s))

/-- An accepted frame keeps the arming when its block stays within. -/
theorem acceptFrame_armed {k : InKind} {act : Nat → List Octet → State → State} (h : ∀ a p v, Within v (act a p v)) :
    (acceptFrame k act s).wlc.armed = s.wlc.armed := by
  unfold acceptFrame
  split
  · rfl
  · split
    · exact (conclude_armed _).trans ((armed_of_within (h _ _ _)).trans ((matchPatterns_armed _ _ _).trans (hear_armed _ s)))
    · rfl

theorem discardFrame_armed (s : State) : (discardFrame s).wlc.armed = s.wlc.armed := by
  unfold discardFrame
  split
  · rfl
  · split
    · rfl
    · exact (conclude_armed _).trans (hear_armed _ s)
    · exact conclude_armed _

/-! ### The start of the link -/

/-- At either start and at a replacement the set is UNARMED (R34, R40). -/
theorem rebuildLink_armed (s : State) : (rebuildLink s).wlc.armed = false :=
  armed_of_within (postOrDrop_within _ _ (within_refl _))

theorem startNotices_armed (s : State) : (startNotices s).wlc.armed = s.wlc.armed := by
  unfold startNotices
  dsimp only
  (repeat' split) <;> simp

theorem start_armed (cause : StartCause) (restarts : Nat) (stored : Bool) (kept : List Learned) (sent : List OutLine) (s : State) :
    (start cause restarts stored kept sent s).wlc.armed = false :=
  (armed_of_within (polls_within (within_refl _))).trans ((startNotices_armed _).trans (rebuildLink_armed _))

theorem replaceDescription_armed (d : Description) (s : State) : (replaceDescription d s).wlc.armed = false :=
  (reportHeld_armed _).trans ((storeNotice_armed ..).trans (rebuildLink_armed _))

theorem failDescription_armed (s : State) : (failDescription s).wlc.armed = s.wlc.armed := storeNotice_armed ..

end Sys2Proof.Proofs.Arming
end

section
/-!
SUPPORT. A request keeps the arming of the pattern set when its accepted answers do; the answers of all requests but PATTERN_SET and
PATTERN_ARM do.
-/

namespace Sys2Proof.Proofs.Arming

open Sys2Proof.Machine Sys2Proof.Safety Sys2Proof.Laws

variable {s t u : State} {tag : Nat}

/-- Where the answer of a request is a state, its pattern set is ARMED exactly if that of the state given is. -/
def AnswerKeeps (s : State) (c : Checked State) : Prop := ∀ u, c = .ok u → u.wlc.armed = s.wlc.armed

/-! ### The shapes of an answer -/

theorem answerKeeps_ok (h : u.wlc.armed = s.wlc.armed) : AnswerKeeps s (.ok u) := fun _ e => by
  cases e
  exact h

theorem answerKeeps_error (e : Refused) : AnswerKeeps s (.error e) := fun _ k => by cases k

/-- A check that passes leads to the rest of the answer. -/
theorem answerKeeps_bind {α : Type} {c : Checked α} {f : α → Checked State} (h : ∀ a, c = .ok a → AnswerKeeps s (f a)) :
    AnswerKeeps s (bind c f) := fun u e =>
  have ⟨a, k, l⟩ := bind_eq_ok.mp e
  h a k u l

/-- The reply comes after what the request has set off is settled. -/
theorem answerKeeps_settled {l : List Field} (h : u.wlc.armed = s.wlc.armed) : AnswerKeeps s (.ok (u.conclude.ok tag l)) :=
  answerKeeps_ok ((conclude_armed u).trans h)

theorem answerKeeps_within {l : List Field} (h : Within s u) : AnswerKeeps s (.ok (u.conclude.ok tag l)) :=
  answerKeeps_settled (armed_of_within h)

/-! ### The line mode and the line description -/

theorem answerLoadBegin_keeps : AnswerKeeps s (answerLoadBegin tag s) := by
  unfold answerLoadBegin
  repeat refine answerKeeps_bind fun _ _ => ?_
  exact answerKeeps_settled rfl

/-- A record of any kind that passes its checks changes the staged description alone (R12). -/
theorem answerLoadRecord_keeps (r : RecordFields) : AnswerKeeps s (answerLoadRecord tag r s) := by
  refine answerKeeps_bind fun _ _ => answerKeeps_bind fun k _ => ?_
  cases k with
  | station | segment | powerSection | substation | breaker | unit | params =>
    repeat refine answerKeeps_bind fun _ _ => ?_
    exact answerKeeps_ok rfl

theorem answerLoadCommit_keeps : AnswerKeeps s (answerLoadCommit tag s) := by
  unfold answerLoadCommit
  dsimp only
  repeat refine answerKeeps_bind fun _ _ => ?_
  exact answerKeeps_settled (placeOtherOp_armed ..)

theorem answerTimeSet_keeps (time : Option Nat) : AnswerKeeps s (answerTimeSet tag time s) := by
  refine answerKeeps_bind fun n _ => answerKeeps_settled ((lapseTrips_armed _).trans ?_)
  split
  · exact (takeBoundary_armed _).trans (updateReadiness_armed _)
  · exact updateReadiness_armed _

theorem answerModeRequest_keeps (target : Option Mode) (flag : Option Bool) :
    AnswerKeeps s (answerModeRequest tag target flag s) := by
  refine answerKeeps_bind fun m _ => answerKeeps_bind fun _ _ => ?_
  split
  · exact answerKeeps_ok (setEscalation_armed flag s)
  · refine answerKeeps_bind fun _ _ => answerKeeps_settled ?_
    unfold when
    split
    · exact (modeChange_armed ..).trans (setEscalation_armed flag s)
    · exact setEscalation_armed flag s

theorem answerSurveyEnd_keeps (target : Option Mode) : AnswerKeeps s (answerSurveyEnd tag target s) := by
  unfold answerSurveyEnd
  repeat refine answerKeeps_bind fun _ _ => ?_
  exact answerKeeps_settled ((modeChange_armed ..).trans (rebuildTrips_armed s))

/-! ### The link and the trains -/

theorem answerUnitQuery_keeps (address : Option Nat) : AnswerKeeps s (answerUnitQuery tag address s) := by
  refine answerKeeps_bind fun a _ => ?_
  cases a with
  | none => exact answerKeeps_ok rfl
  | some n => exact answerKeeps_bind fun _ _ => answerKeeps_ok rfl

theorem answerStallLimit_keeps (limit : Option Nat) : AnswerKeeps s (answerStallLimit tag limit s) :=
  answerKeeps_bind fun _ _ => answerKeeps_settled
    (forEach_armed _ _ _ fun n v => armed_of_within (stallExpire_within n (within_refl v)))

/-- A record is made only where the train table has room (R55). -/
theorem setNumber_within {n g : Nat} {o : Option Nat}
    (room : ((s.train? n).isSome || decide (s.trk.trains.length < 48)) = true) :
    Within s ((place n g o (if (s.train? n).isSome then Placing.recovery else Placing.creation) s).trainNotice n) := by
  refine trainNotice_within n (place_within n g o _ (within_refl s) ?_)
  split
  · exact nofun
  · rename_i k
    simpa [k] using room

theorem answerSetNumber_keeps (segment number tail : Option Nat) : AnswerKeeps s (answerSetNumber tag segment number tail s) := by
  unfold answerSetNumber
  repeat refine answerKeeps_bind fun _ _ => ?_
  dsimp only
  split
  · repeat refine answerKeeps_bind fun _ _ => ?_
    exact answerKeeps_within (setNumber_within (require_eq_ok.mp (by assumption)))
  · repeat refine answerKeeps_bind fun _ _ => ?_
    exact answerKeeps_within (setNumber_within (require_eq_ok.mp (by assumption)))

theorem answerSetDraw_keeps (number draw : Option Nat) : AnswerKeeps s (answerSetDraw tag number draw s) := by
  unfold answerSetDraw
  repeat refine answerKeeps_bind fun _ _ => ?_
  exact answerKeeps_ok (armed_of_within (ok_within _ _ (trainNotice_within _ (modTrain_within _ _ (within_refl s)))))

theorem answerTrainWithdraw_keeps (number : Option Nat) : AnswerKeeps s (answerTrainWithdraw tag number s) := by
  unfold answerTrainWithdraw
  repeat refine answerKeeps_bind fun _ _ => ?_
  exact answerKeeps_within (withdrawTrain_within _ (within_refl s))

theorem answerTrainQuery_keeps (number : Option Nat) (what : Option What) : AnswerKeeps s (answerTrainQuery tag number what s) := by
  refine answerKeeps_bind fun n _ => ?_
  cases n with
  | none =>
    dsimp only
    split <;> exact answerKeeps_ok rfl
  | some k => exact answerKeeps_bind fun _ _ => answerKeeps_ok rfl

/-! ### Timetables -/

theorem answerTtOpen_keeps (slot name : Option Nat) : AnswerKeeps s (answerTtOpen tag slot name s) := by
  unfold answerTtOpen
  repeat refine answerKeeps_bind fun _ _ => ?_
  exact answerKeeps_ok (slotNotice_armed ..)

theorem answerTtAbandon_keeps (slot : Option Nat) : AnswerKeeps s (answerTtAbandon tag slot s) := by
  unfold answerTtAbandon
  repeat refine answerKeeps_bind fun _ _ => ?_
  exact answerKeeps_ok (slotNotice_armed ..)

theorem answerTtAddTrip_keeps (f : TripFields) : AnswerKeeps s (answerTtAddTrip tag f s) := by
  unfold answerTtAddTrip
  repeat refine answerKeeps_bind fun _ _ => ?_
  dsimp only
  split
  · exact answerKeeps_error _
  · repeat refine answerKeeps_bind fun _ _ => ?_
    exact answerKeeps_ok rfl

theorem answerTtClose_keeps (slot : Option Nat) : AnswerKeeps s (answerTtClose tag slot s) := by
  unfold answerTtClose
  repeat refine answerKeeps_bind fun _ _ => ?_
  exact answerKeeps_settled ((placeOtherOp_armed ..).trans (slotNotice_armed ..))

theorem answerTtActivate_keeps (slot : Option OneOrNone) : AnswerKeeps s (answerTtActivate tag slot s) := by
  unfold answerTtActivate
  repeat refine answerKeeps_bind fun _ _ => ?_
  exact answerKeeps_settled ((rebuildTrips_armed _).trans (setIndices_armed _ _ s))

theorem answerTtSchedule_keeps (slot : Option OneOrNone) : AnswerKeeps s (answerTtSchedule tag slot s) :=
  answerKeeps_bind fun _ _ => answerKeeps_settled (setIndices_armed _ _ s)

theorem answerTtQuery_keeps (slot trip : Option Nat) : AnswerKeeps s (answerTtQuery tag slot trip s) := by
  refine answerKeeps_bind fun _ _ => answerKeeps_bind fun n _ => ?_
  cases n with
  | none => exact answerKeeps_ok rfl
  | some k => exact answerKeeps_bind fun _ _ => answerKeeps_ok rfl

/-! ### Trips, holds, authorities and learned run times -/

theorem answerTripAssign_keeps (train trip : Option Nat) : AnswerKeeps s (answerTripAssign tag train trip s) := by
  unfold answerTripAssign
  repeat refine answerKeeps_bind fun _ _ => ?_
  exact answerKeeps_within (giveTrip_within _ _ (within_refl s))

theorem answerTripCancel_keeps (trip : Option Nat) : AnswerKeeps s (answerTripCancel tag trip s) := by
  unfold answerTripCancel
  repeat refine answerKeeps_bind fun _ _ => ?_
  exact answerKeeps_within (cancelTrip_within _ _ s)

theorem answerTripQuery_keeps (trip : Option Nat) (what : Option What) : AnswerKeeps s (answerTripQuery tag trip what s) := by
  refine answerKeeps_bind fun n _ => ?_
  cases n with
  | none =>
    dsimp only
    split <;> exact answerKeeps_ok rfl
  | some k => exact answerKeeps_bind fun _ _ => answerKeeps_ok rfl

theorem answerTrainHold_keeps {act : Nat → HoldReason → State → State} (h : ∀ n r, Within s (act n r s)) (train : Option Nat) :
    AnswerKeeps s (answerTrainHold tag act train s) :=
  answerKeeps_bind fun n _ => answerKeeps_bind fun _ _ => answerKeeps_within (trainNotice_within n (h n .operator))

theorem answerPlatformHold_keeps {act : Nat → HoldReason → State → State} (h : ∀ p r, Within s (act p r s))
    (platform : Option Nat) : AnswerKeeps s (answerPlatformHold tag act platform s) :=
  answerKeeps_bind fun p _ => answerKeeps_bind fun _ _ => answerKeeps_within (notice_within _ _ (h p .operator))

theorem answerRegulationSet_keeps (f : RegulationFields) : AnswerKeeps s (answerRegulationSet tag f s) := by
  refine answerKeeps_bind fun which _ => answerKeeps_bind fun _ _ => answerKeeps_bind fun _ _ => answerKeeps_bind fun _ _ => ?_
  cases which <;> exact answerKeeps_ok rfl

theorem answerDelaySet_keeps (on off : Option Nat) : AnswerKeeps s (answerDelaySet tag on off s) := by
  unfold answerDelaySet
  repeat refine answerKeeps_bind fun _ _ => ?_
  exact answerKeeps_ok rfl

theorem answerAuthorityClear_keeps (train : Option Nat) : AnswerKeeps s (answerAuthorityClear tag train s) := by
  unfold answerAuthorityClear
  repeat refine answerKeeps_bind fun _ _ => ?_
  exact answerKeeps_within (trainNotice_within _ (endWithdrawn_within _ (within_refl s)))

theorem answerLearnSet_keeps (segment : Option Nat) (f : Option OneOrAdapt) (lower upper : Option Nat) :
    AnswerKeeps s (answerLearnSet tag segment f lower upper s) := by
  unfold answerLearnSet
  repeat refine answerKeeps_bind fun _ _ => ?_
  exact answerKeeps_ok rfl

theorem answerLearnReset_keeps (segment : Option OneOrAll) : AnswerKeeps s (answerLearnReset tag segment s) := by
  refine answerKeeps_bind fun a _ => ?_
  cases a with
  | all => exact answerKeeps_ok (forEach_armed _ _ s fun _ _ => rfl)
  | one n => exact answerKeeps_bind fun _ _ => answerKeeps_bind fun _ _ => answerKeeps_ok rfl

theorem answerLearnQuery_keeps (segment : Option Nat) : AnswerKeeps s (answerLearnQuery tag segment s) := by
  refine answerKeeps_bind fun a _ => ?_
  cases a with
  | none => exact answerKeeps_ok rfl
  | some n => exact answerKeeps_bind fun _ _ => answerKeeps_ok rfl

/-! ### Traction power and permits -/

theorem answerEnergise_keeps (sec : Option Nat) : AnswerKeeps s (answerEnergise tag sec s) := by
  unfold answerEnergise
  repeat refine answerKeeps_bind fun _ _ => ?_
  exact answerKeeps_within (placeSeq_within _ _ (clearLockout_within _ (within_refl s)))

theorem answerEnergiseAll_keeps : AnswerKeeps s (answerEnergiseAll tag s) :=
  answerKeeps_bind fun _ _ => answerKeeps_within
    (within_forEach _ _ (within_refl s) fun x v => placeSeq_within x _ (within_refl v))

theorem answerDeenergise_keeps (sec : Option Nat) : AnswerKeeps s (answerDeenergise tag sec s) :=
  answerKeeps_bind fun _ _ => answerKeeps_bind fun _ _ => answerKeeps_within (deenergiseNow_within _ (within_refl s))

theorem answerBreakerCommand_keeps (breaker : Option Nat) (action : Option Action) :
    AnswerKeeps s (answerBreakerCommand tag breaker action s) := by
  refine answerKeeps_bind fun b _ => answerKeeps_bind fun a _ => answerKeeps_bind fun _ _ => ?_
  cases a with
  | closing => exact answerKeeps_bind fun _ _ => answerKeeps_settled rfl
  | opening => exact answerKeeps_bind fun _ _ => answerKeeps_within (placeOpen_within b _ (within_refl s))

theorem answerHoldRelease_keeps (sec : Option OneOrAll) : AnswerKeeps s (answerHoldRelease tag sec s) := by
  refine answerKeeps_bind fun a _ => ?_
  cases a with
  | all => exact answerKeeps_settled (forEach_armed _ _ s fun x v => changeSection_armed x _ v)
  | one n =>
    exact answerKeeps_bind fun _ _ => answerKeeps_bind fun _ _ => answerKeeps_bind fun _ _ =>
      answerKeeps_settled (changeSection_armed ..)

theorem answerSectionQuery_keeps (sec : Option Nat) (what : Option What) : AnswerKeeps s (answerSectionQuery tag sec what s) := by
  cases sec with
  | none =>
    unfold answerSectionQuery
    dsimp only
    split <;> exact answerKeeps_ok rfl
  | some n => exact answerKeeps_bind fun _ _ => answerKeeps_ok rfl

theorem answerPermitRequest_keeps (sec holder : Option Nat) : AnswerKeeps s (answerPermitRequest tag sec holder s) := by
  unfold answerPermitRequest
  repeat refine answerKeeps_bind fun _ _ => ?_
  split
  · exact answerKeeps_error _
  · refine answerKeeps_bind fun q e => answerKeeps_settled ((makePermit_armed ..).trans (permitPlace_armed (n := q.1) ?_))
    cases k : s.permitPlace with
    | none => rw [k] at e; cases e
    | some p => rw [k] at e; cases e; rfl

theorem answerPermitCancel_keeps (id : Option Nat) : AnswerKeeps s (answerPermitCancel tag id s) :=
  answerKeeps_bind fun _ _ => answerKeeps_bind fun _ _ => answerKeeps_settled
    ((afterPermit_armed ..).trans ((stopIsolation_armed ..).trans (endPermit_armed ..)))

theorem answerPermitSurrender_keeps (id holder : Option Nat) : AnswerKeeps s (answerPermitSurrender tag id holder s) := by
  unfold answerPermitSurrender
  repeat refine answerKeeps_bind fun _ _ => ?_
  exact answerKeeps_within (placePermitOp_within _ (setPermit_within _ _ (within_refl s)))

theorem answerPermitQuery_keeps (id sec : Option Nat) : AnswerKeeps s (answerPermitQuery tag id sec s) := by
  refine answerKeeps_bind fun i _ => answerKeeps_bind fun x _ => ?_
  cases i with
  | some n => exact answerKeeps_bind fun _ _ => answerKeeps_ok rfl
  | none =>
    cases x with
    | some n => exact answerKeeps_bind fun _ _ => answerKeeps_ok rfl
    | none => exact answerKeeps_ok rfl

/-! ### Incidents -/

theorem answerEscalationSet_keeps (cls : Option IncClass) (period : Option Nat) :
    AnswerKeeps s (answerEscalationSet tag cls period s) :=
  answerKeeps_bind fun _ _ => answerKeeps_bind fun _ _ => answerKeeps_ok rfl

theorem answerResponseSet_keeps (f : ResponseFields) : AnswerKeeps s (answerResponseSet tag f s) := by
  unfold answerResponseSet
  repeat refine answerKeeps_bind fun _ _ => ?_
  exact answerKeeps_settled (placeOtherOp_armed ..)

theorem answerIncidentRaise_keeps (cls : Option IncClass) (severity : Option Nat) (location : Option Location)
    (note : Option Nat) : AnswerKeeps s (answerIncidentRaise tag cls severity location note s) := by
  unfold answerIncidentRaise
  repeat refine answerKeeps_bind fun _ _ => ?_
  exact answerKeeps_settled ((noteRaise_armed ..).trans (armed_of_within (raiseIncident_within _ _ _ _ (within_refl s))))

theorem answerIncidentAck_keeps (id note : Option Nat) : AnswerKeeps s (answerIncidentAck tag id note s) :=
  answerKeeps_bind fun _ _ => answerKeeps_bind fun _ _ => answerKeeps_ok (incidentNotice_armed ..)

theorem answerIncidentContain_keeps (id note : Option Nat) : AnswerKeeps s (answerIncidentContain tag id note s) :=
  answerKeeps_bind fun _ _ => answerKeeps_bind fun _ _ => answerKeeps_settled
    ((forEach_armed _ _ _ fun p v => armed_of_within (removePlatformHold_within p _ (within_refl v))).trans
      (incidentNotice_armed ..))

theorem answerIncidentClose_keeps (id note : Option Nat) : AnswerKeeps s (answerIncidentClose tag id note s) :=
  answerKeeps_bind fun q _ => answerKeeps_bind fun _ _ => answerKeeps_settled
    (armed_of_within (s := s.modIncident q.1.id (putNote q.2)) (closeIncident_within _ _ (within_refl _)))

theorem answerIncidentRelease_keeps (id : Option Nat) (action : Option ReleaseKind) (index : Option Nat) :
    AnswerKeeps s (answerIncidentRelease tag id action index s) := by
  unfold answerIncidentRelease
  repeat refine answerKeeps_bind fun _ _ => ?_
  exact answerKeeps_settled ((incidentNotice_armed ..).trans
    ((congrArg Wlc.armed (modIncident_wlc ..)).trans (armed_of_within (liftAction_within _ _ s))))

theorem answerIncidentRetire_keeps (id : Option Nat) : AnswerKeeps s (answerIncidentRetire tag id s) :=
  answerKeeps_bind fun _ _ => answerKeeps_bind fun _ _ => answerKeeps_ok (incidentNotice_armed _ s)

theorem answerIncidentQuery_keeps (id : Option Nat) (what : Option What) : AnswerKeeps s (answerIncidentQuery tag id what s) := by
  refine answerKeeps_bind fun n _ => ?_
  cases n with
  | none => exact answerKeeps_ok rfl
  | some k => exact answerKeeps_bind fun _ _ => answerKeeps_ok rfl

/-! ### Announcements -/

theorem answerTemplateLoad_keeps (index : Option Nat) (elements : Option (List Element)) :
    AnswerKeeps s (answerTemplateLoad tag index elements s) := by
  unfold answerTemplateLoad
  repeat refine answerKeeps_bind fun _ _ => ?_
  exact answerKeeps_settled (placeOtherOp_armed ..)

theorem answerAnnounce_keeps (f : PostFields) : AnswerKeeps s (answerAnnounce tag f s) := by
  refine answerKeeps_bind fun p _ => ?_
  split
  · exact answerKeeps_within (postEntry_within ‹_› (within_refl s))
  · exact answerKeeps_error _
  · exact answerKeeps_error _

theorem answerWithdraw_keeps (id : Option Nat) : AnswerKeeps s (answerWithdraw tag id s) :=
  answerKeeps_bind fun _ _ => answerKeeps_bind fun _ _ => answerKeeps_within (withdrawEntry_within _ _ (within_refl s))

theorem answerAnnounceQuery_keeps (id : Option Nat) (what : Option What) : AnswerKeeps s (answerAnnounceQuery tag id what s) := by
  refine answerKeeps_bind fun n _ => ?_
  cases n with
  | none =>
    dsimp only
    split <;> exact answerKeeps_ok rfl
  | some k => exact answerKeeps_bind fun _ _ => answerKeeps_ok rfl

theorem answerZoneQuery_keeps (station : Option Nat) : AnswerKeeps s (answerZoneQuery tag station s) := by
  refine answerKeeps_bind fun n _ => ?_
  cases n with
  | none => exact answerKeeps_ok rfl
  | some k => exact answerKeeps_bind fun _ _ => answerKeeps_ok rfl

end Sys2Proof.Proofs.Arming
end

section
/-!
PROOFS. The set's arming (R36): every command but the five that decide it keeps it; PATTERN_ARM's answers; and O33.
-/

namespace Sys2Proof.Proofs.Arming

open Sys2Proof.Machine Sys2Proof.Safety Sys2Proof.Laws

variable {s t : State}

/-- Where the outcome is a next state, its pattern set is ARMED exactly if that of the state given is. -/
def OutcomeKeeps (s : State) (o : Host.Outcome State Fault Refusal) : Prop := ∀ t, o = .next t → t.wlc.armed = s.wlc.armed

theorem outcomeKeeps_next (h : t.wlc.armed = s.wlc.armed) : OutcomeKeeps s (.next t) := fun _ e => by
  cases e
  exact h

theorem outcomeKeeps_request {i : Instr} {tag : Nat} {act : State → Checked State} (h : AnswerKeeps s (act s)) :
    OutcomeKeeps s (takeRequest i tag act s) := fun t e => by
  rcases takeRequest_cases e with rfl | ⟨_, _, _, rfl⟩ | ⟨_, u, k, rfl⟩
  · rfl
  · rfl
  · exact h u k

/-- An event that has come about is handled and settled; one that has not changes nothing (log 1). -/
theorem guarded_armed {c : Prop} [Decidable c] (h : t.wlc.armed = s.wlc.armed) :
    (if c then t.conclude else s).wlc.armed = s.wlc.armed := by
  split
  · exact (conclude_armed t).trans h
  · rfl

theorem guarded_within {c : Prop} [Decidable c] (h : Within s t) : (if c then t.conclude else s).wlc.armed = s.wlc.armed :=
  guarded_armed (armed_of_within h)

/-! ### The clock and the control link -/

theorem execTrafficDayBoundary_keeps : OutcomeKeeps s (execTrafficDayBoundary s) :=
  outcomeKeeps_next (guarded_armed (takeBoundary_armed _))

theorem execTripLapse_keeps (k : Nat) : OutcomeKeeps s (execTripLapse k s) := by
  refine outcomeKeeps_next ?_
  split
  · split
    · exact armed_of_within (setTrip_within k _ _ (within_refl s))
    · rfl
  · rfl

theorem execLineArrival_keeps (chars : Text) : OutcomeKeeps s (execLineArrival chars s) := by
  refine outcomeKeeps_next ?_
  split
  · rfl
  · exact judgeLine_armed ..

theorem execUnknownRequest_keeps : OutcomeKeeps s (execUnknownRequest s) := by
  refine outcomeKeeps_next ?_
  (repeat' split) <;> rfl

/-! ### The wayside link -/

theorem execTryEnd_keeps (mark : Bool) : OutcomeKeeps s (execTryEnd mark s) := by
  refine outcomeKeeps_next ?_
  split
  · exact (conclude_armed _).trans (endTry_armed mark s)
  · rfl

theorem acceptFrame_keeps {k : InKind} {act : Nat → List Octet → State → State} (h : ∀ a p v, Within v (act a p v)) :
    OutcomeKeeps s (.next (acceptFrame k act s)) :=
  outcomeKeeps_next (acceptFrame_armed h)

theorem execPollPoint_keeps (a : Nat) : OutcomeKeeps s (execPollPoint a s) := by
  refine outcomeKeeps_next ?_
  split
  · exact guarded_within (pollPointPass_within a (within_refl s))
  · rfl

theorem execSilenceExpiry_keeps (a : Nat) : OutcomeKeeps s (execSilenceExpiry a s) := by
  refine outcomeKeeps_next ?_
  split
  · exact guarded_within (silenceExpire_within a (within_refl s))
  · rfl

/-! ### The timers of trains, calls and incidents -/

theorem execStallExpiry_keeps (n : Nat) : OutcomeKeeps s (execStallExpiry n s) := by
  refine outcomeKeeps_next ?_
  split
  · exact guarded_within (stallExpire_within n (within_refl s))
  · rfl

theorem execEscalationExpiry_keeps (id : Nat) : OutcomeKeeps s (execEscalationExpiry id s) := by
  refine outcomeKeeps_next ?_
  split
  · exact guarded_armed (escalationExpire_armed _ s)
  · rfl

theorem execTargetExpiry_keeps (n : Nat) : OutcomeKeeps s (execTargetExpiry n s) := by
  refine outcomeKeeps_next ?_
  split
  · exact guarded_within (evaluate_within n (within_refl s))
  · rfl

theorem execRetryExpiry_keeps (n : Nat) : OutcomeKeeps s (execRetryExpiry n s) := by
  refine outcomeKeeps_next ?_
  split
  · exact guarded_within (retryExpire_within n (within_refl s))
  · rfl

theorem execAuthorityLapse_keeps (n : Nat) : OutcomeKeeps s (execAuthorityLapse n s) := by
  refine outcomeKeeps_next ?_
  split
  · exact guarded_within (revoke_within n (within_refl s))
  · rfl

theorem execRevokeEchoLimit_keeps (n : Nat) : OutcomeKeeps s (execRevokeEchoLimit n s) := by
  refine outcomeKeeps_next ?_
  split
  · exact guarded_within (echoLimitExpire_within n _ (within_refl s))
  · rfl

theorem execDepartureWaitExpiry_keeps (n : Nat) : OutcomeKeeps s (execDepartureWaitExpiry n s) := by
  refine outcomeKeeps_next ?_
  split
  · exact guarded_within (departureWaitExpire_within n _ (within_refl s))
  · rfl

/-! ### The timers of traction power -/

theorem execStartWindowExpiry_keeps (n : Nat) : OutcomeKeeps s (execStartWindowExpiry n s) := by
  refine outcomeKeeps_next ?_
  split
  · exact guarded_within (releaseGrant_within n (within_refl s))
  · rfl

theorem execRegenerationWindowExpiry_keeps (x : Nat) : OutcomeKeeps s (execRegenerationWindowExpiry x s) := by
  refine outcomeKeeps_next ?_
  split
  · exact guarded_armed rfl
  · rfl

theorem execSelectWindowExpiry_keeps (b : Nat) : OutcomeKeeps s (execSelectWindowExpiry b s) := by
  refine outcomeKeeps_next ?_
  split
  · exact (conclude_armed _).trans (armed_of_within (selectWindowExpire_within _ (within_refl s)))
  · rfl

theorem execOperateLimitExpiry_keeps (b : Nat) : OutcomeKeeps s (execOperateLimitExpiry b s) := by
  refine outcomeKeeps_next ?_
  split
  · exact guarded_within (operateLimitExpire_within b (within_refl s))
  · rfl

theorem execRecloseDelayExpiry_keeps (x : Nat) : OutcomeKeeps s (execRecloseDelayExpiry x s) := by
  refine outcomeKeeps_next ?_
  split
  · exact guarded_within (recloseExpire_within x (within_refl s))
  · rfl

theorem execLockoutSpanExpiry_keeps (x : Nat) : OutcomeKeeps s (execLockoutSpanExpiry x s) := by
  refine outcomeKeeps_next ?_
  split
  · exact guarded_armed rfl
  · rfl

theorem execVoltageConfirmExpiry_keeps (x : Nat) : OutcomeKeeps s (execVoltageConfirmExpiry x s) := by
  refine outcomeKeeps_next ?_
  split
  · exact guarded_within (failSeq_within x _ (within_refl s))
  · rfl

theorem execIsolationConfirmExpiry_keeps (x : Nat) : OutcomeKeeps s (execIsolationConfirmExpiry x s) := by
  refine outcomeKeeps_next ?_
  split
  · exact guarded_within (isolationConfirmExpire_within x (within_refl s))
  · rfl

/-! ### Completions -/

theorem execPermitWriteCompletion_keeps (o : StoreOutcome) : OutcomeKeeps s (execPermitWriteCompletion o s) := by
  refine outcomeKeeps_next ?_
  split
  · refine (conclude_armed _).trans ?_
    cases o
    · exact permitWritten_armed ..
    · exact permitWriteFailed_armed ..
  · rfl

theorem execPermitEraseCompletion_keeps (o : StoreOutcome) : OutcomeKeeps s (execPermitEraseCompletion o s) := by
  refine outcomeKeeps_next ?_
  split
  · refine (conclude_armed _).trans ?_
    cases o
    · exact permitErased_armed ..
    · exact permitEraseFailed_armed ..
  · rfl

theorem execTemplateWriteCompletion_keeps (o : StoreOutcome) : OutcomeKeeps s (execTemplateWriteCompletion o s) := by
  refine outcomeKeeps_next ?_
  split
  · refine (conclude_armed _).trans ((storeNotice_armed ..).trans ?_)
    cases o <;> rfl
  · rfl

theorem execResponseWriteCompletion_keeps (o : StoreOutcome) : OutcomeKeeps s (execResponseWriteCompletion o s) := by
  refine outcomeKeeps_next ?_
  split
  · refine (conclude_armed _).trans ((storeNotice_armed ..).trans ?_)
    cases o <;> rfl
  · rfl

theorem execIndexWriteCompletion_keeps (o : StoreOutcome) : OutcomeKeeps s (execIndexWriteCompletion o s) := by
  refine outcomeKeeps_next ?_
  split
  · refine (conclude_armed _).trans ((storeNotice_armed ..).trans ?_)
    cases o <;> rfl
  · rfl

theorem execCommitPageCompletion_keeps (o : StoreOutcome) : OutcomeKeeps s (execCommitPageCompletion o s) := by
  refine outcomeKeeps_next ?_
  split
  · refine (conclude_armed _).trans ((storeNotice_armed ..).trans ?_)
    cases o
    · exact pageDone_armed ..
    · exact pageFailed_armed ..
  · rfl

/-! ### The timers of announcements -/

theorem execEntryExpiry_keeps (entry : Nat) : OutcomeKeeps s (execEntryExpiry entry s) := by
  refine outcomeKeeps_next ?_
  split
  · exact guarded_within (withdrawEntry_within entry _ (within_refl s))
  · rfl

theorem execDeliveryEligible_keeps (entry station : Nat) : OutcomeKeeps s (execDeliveryEligible entry station s) := by
  have made := modDelivery_within entry station (fun d => { d with awaiting := false }) (within_refl s)
  refine outcomeKeeps_next ?_
  split
  · exact guarded_within (offerDelivery_within entry station made)
  · rfl

theorem execPlayLimitExpiry_keeps (station : Nat) : OutcomeKeeps s (execPlayLimitExpiry station s) := by
  refine outcomeKeeps_next ?_
  split
  · exact guarded_within (playLimitExpire_within station _ s)
  · rfl

theorem execDisplayRefreshExpiry_keeps (platform : Nat) : OutcomeKeeps s (execDisplayRefreshExpiry platform s) := by
  refine outcomeKeeps_next ?_
  split
  · exact guarded_within (computeDisplay_within true platform (within_refl s))
  · rfl

/-! ### Every command -/

/-- The commands that decide whether the set is ARMED: the two starts, the replacement of the line description, PATTERN_SET and
PATTERN_ARM (R35, R36). -/
def decidesArming : Instr → Bool
  | .powerOn _ => true
  | .restartStart _ => true
  | .lineDescriptionCompletion _ => true
  | .patternSet _ _ => true
  | .patternArm _ => true
  | _ => false

/-- Every other command keeps the arming. -/
theorem exec_keeps_arming (i : Instr) (h : decidesArming i = false) : OutcomeKeeps s (exec i s) := by
  cases i with
  | powerOn | restartStart | lineDescriptionCompletion | patternSet | patternArm => cases h
  | secondTick => exact outcomeKeeps_next rfl
  | trafficDayBoundary => exact execTrafficDayBoundary_keeps
  | tripLapse k => exact execTripLapse_keeps k
  | lineArrival chars => exact execLineArrival_keeps chars
  | unknownRequest => exact execUnknownRequest_keeps
  | lineLoadBegin => exact outcomeKeeps_request answerLoadBegin_keeps
  | lineLoadRecord _ r => exact outcomeKeeps_request (answerLoadRecord_keeps r)
  | lineLoadCommit => exact outcomeKeeps_request answerLoadCommit_keeps
  | timeSet _ time => exact outcomeKeeps_request (answerTimeSet_keeps time)
  | unitQuery _ address => exact outcomeKeeps_request (answerUnitQuery_keeps address)
  | patternQuery _ index => exact outcomeKeeps_request (answerKeeps_bind fun _ _ => answerKeeps_ok rfl)
  | stallLimitSet _ limit => exact outcomeKeeps_request (answerStallLimit_keeps limit)
  | trainSetNumber _ segment number tail => exact outcomeKeeps_request (answerSetNumber_keeps segment number tail)
  | trainSetDraw _ number draw => exact outcomeKeeps_request (answerSetDraw_keeps number draw)
  | trainWithdraw _ number => exact outcomeKeeps_request (answerTrainWithdraw_keeps number)
  | trainQuery _ number what => exact outcomeKeeps_request (answerTrainQuery_keeps number what)
  | storeQuery =>
    exact outcomeKeeps_request (act := fun s => .ok ((s.clearFlag .store).replyBlock _ (storeLines s))) (answerKeeps_ok rfl)
  | ttOpen _ slot name => exact outcomeKeeps_request (answerTtOpen_keeps slot name)
  | ttAbandon _ slot => exact outcomeKeeps_request (answerTtAbandon_keeps slot)
  | ttAddTrip _ f => exact outcomeKeeps_request (answerTtAddTrip_keeps f)
  | ttClose _ slot => exact outcomeKeeps_request (answerTtClose_keeps slot)
  | ttActivate _ slot => exact outcomeKeeps_request (answerTtActivate_keeps slot)
  | ttSchedule _ slot => exact outcomeKeeps_request (answerTtSchedule_keeps slot)
  | ttQuery _ slot trip => exact outcomeKeeps_request (answerTtQuery_keeps slot trip)
  | tripAssign _ train trip => exact outcomeKeeps_request (answerTripAssign_keeps train trip)
  | tripCancel _ trip => exact outcomeKeeps_request (answerTripCancel_keeps trip)
  | tripQuery _ trip what => exact outcomeKeeps_request (answerTripQuery_keeps trip what)
  | holdTrain _ train => exact outcomeKeeps_request (answerTrainHold_keeps (fun n r => addTrainHold_within n r (within_refl s)) train)
  | releaseTrain _ train =>
    exact outcomeKeeps_request (answerTrainHold_keeps (fun n r => removeTrainHold_within n r (within_refl s)) train)
  | holdPlatform _ platform =>
    exact outcomeKeeps_request (answerPlatformHold_keeps (fun p r => addPlatformHold_within p r (within_refl s)) platform)
  | releasePlatform _ platform =>
    exact outcomeKeeps_request (answerPlatformHold_keeps (fun p r => removePlatformHold_within p r (within_refl s)) platform)
  | regulationSet _ f => exact outcomeKeeps_request (answerRegulationSet_keeps f)
  | delaySet _ on off => exact outcomeKeeps_request (answerDelaySet_keeps on off)
  | authorityClear _ train => exact outcomeKeeps_request (answerAuthorityClear_keeps train)
  | learnSet _ segment f lower upper => exact outcomeKeeps_request (answerLearnSet_keeps segment f lower upper)
  | learnReset _ segment => exact outcomeKeeps_request (answerLearnReset_keeps segment)
  | learnQuery _ segment => exact outcomeKeeps_request (answerLearnQuery_keeps segment)
  | energise _ sec => exact outcomeKeeps_request (answerEnergise_keeps sec)
  | energiseAll => exact outcomeKeeps_request answerEnergiseAll_keeps
  | deenergise _ sec => exact outcomeKeeps_request (answerDeenergise_keeps sec)
  | breakerCommand _ breaker action => exact outcomeKeeps_request (answerBreakerCommand_keeps breaker action)
  | holdRelease _ sec => exact outcomeKeeps_request (answerHoldRelease_keeps sec)
  | sectionQuery _ sec what => exact outcomeKeeps_request (answerSectionQuery_keeps sec what)
  | permitRequest _ sec holder => exact outcomeKeeps_request (answerPermitRequest_keeps sec holder)
  | permitCancel _ id => exact outcomeKeeps_request (answerPermitCancel_keeps id)
  | permitSurrender _ id holder => exact outcomeKeeps_request (answerPermitSurrender_keeps id holder)
  | permitQuery _ id sec => exact outcomeKeeps_request (answerPermitQuery_keeps id sec)
  | escalationSet _ cls period => exact outcomeKeeps_request (answerEscalationSet_keeps cls period)
  | responseSet _ f => exact outcomeKeeps_request (answerResponseSet_keeps f)
  | incidentRaise _ cls severity location note =>
    exact outcomeKeeps_request (answerIncidentRaise_keeps cls severity location note)
  | incidentAck _ id note => exact outcomeKeeps_request (answerIncidentAck_keeps id note)
  | incidentContain _ id note => exact outcomeKeeps_request (answerIncidentContain_keeps id note)
  | incidentClose _ id note => exact outcomeKeeps_request (answerIncidentClose_keeps id note)
  | incidentRelease _ id action index => exact outcomeKeeps_request (answerIncidentRelease_keeps id action index)
  | incidentRetire _ id => exact outcomeKeeps_request (answerIncidentRetire_keeps id)
  | incidentQuery _ id what => exact outcomeKeeps_request (answerIncidentQuery_keeps id what)
  | templateLoad _ index elements => exact outcomeKeeps_request (answerTemplateLoad_keeps index elements)
  | announce _ f => exact outcomeKeeps_request (answerAnnounce_keeps f)
  | withdraw _ id => exact outcomeKeeps_request (answerWithdraw_keeps id)
  | announceQuery _ id what => exact outcomeKeeps_request (answerAnnounceQuery_keeps id what)
  | zoneQuery _ station => exact outcomeKeeps_request (answerZoneQuery_keeps station)
  | modeRequest _ target flag => exact outcomeKeeps_request (answerModeRequest_keeps target flag)
  | restart => exact outcomeKeeps_request (answerKeeps_ok rfl)
  | surveyEnd _ target => exact outcomeKeeps_request (answerSurveyEnd_keeps target)
  | statusQuery => exact outcomeKeeps_request (answerKeeps_ok rfl)
  | tryStart rivals => exact outcomeKeeps_next (startTry_armed rivals s)
  | tryEnd mark => exact execTryEnd_keeps mark
  | frameReceive frame mark => exact outcomeKeeps_next (receiveFrame_armed frame mark s)
  | trackEvent => exact acceptFrame_keeps fun a p v => takeTrackEvent_within a p (within_refl v)
  | trackStatus => exact acceptFrame_keeps fun a p v => takeTrackStatus_within a p (within_refl v)
  | revokeEcho => exact acceptFrame_keeps fun a p v => takeRevokeEcho_within a p (within_refl v)
  | powerStatus => exact acceptFrame_keeps fun a p v => takePowerStatus_within a p (within_refl v)
  | selectEcho => exact acceptFrame_keeps fun a p v => takeSelectEcho_within a p (within_refl v)
  | stationStatus => exact acceptFrame_keeps fun a p v => stationReport_within a p (within_refl v)
  | playEnd => exact acceptFrame_keeps fun a p v => playReport_within a p (within_refl v)
  | alarm => exact acceptFrame_keeps fun _ _ v => within_refl v
  | inboundFrameDiscarded => exact outcomeKeeps_next (discardFrame_armed s)
  | pollPoint a => exact execPollPoint_keeps a
  | silenceExpiry a => exact execSilenceExpiry_keeps a
  | stallExpiry n => exact execStallExpiry_keeps n
  | escalationExpiry id => exact execEscalationExpiry_keeps id
  | targetExpiry n => exact execTargetExpiry_keeps n
  | retryExpiry n => exact execRetryExpiry_keeps n
  | authorityLapse n => exact execAuthorityLapse_keeps n
  | revokeEchoLimit n => exact execRevokeEchoLimit_keeps n
  | departureWaitExpiry n => exact execDepartureWaitExpiry_keeps n
  | startWindowExpiry n => exact execStartWindowExpiry_keeps n
  | regenerationWindowExpiry x => exact execRegenerationWindowExpiry_keeps x
  | selectWindowExpiry b => exact execSelectWindowExpiry_keeps b
  | operateLimitExpiry b => exact execOperateLimitExpiry_keeps b
  | recloseDelayExpiry x => exact execRecloseDelayExpiry_keeps x
  | lockoutSpanExpiry x => exact execLockoutSpanExpiry_keeps x
  | voltageConfirmExpiry x => exact execVoltageConfirmExpiry_keeps x
  | isolationConfirmExpiry x => exact execIsolationConfirmExpiry_keeps x
  | permitWriteCompletion o => exact execPermitWriteCompletion_keeps o
  | permitEraseCompletion o => exact execPermitEraseCompletion_keeps o
  | templateWriteCompletion o => exact execTemplateWriteCompletion_keeps o
  | responseWriteCompletion o => exact execResponseWriteCompletion_keeps o
  | indexWriteCompletion o => exact execIndexWriteCompletion_keeps o
  | commitPageCompletion o => exact execCommitPageCompletion_keeps o
  | entryExpiry entry => exact execEntryExpiry_keeps entry
  | deliveryEligible entry station => exact execDeliveryEligible_keeps entry station
  | playLimitExpiry station => exact execPlayLimitExpiry_keeps station
  | displayRefreshExpiry platform => exact execDisplayRefreshExpiry_keeps platform

/-! ### The five that decide -/

theorem exec_powerOn_armed {stored : Bool} (h : exec (.powerOn stored) s = .next t) : t.wlc.armed = false := by
  cases h
  exact start_armed ..

theorem exec_restartStart_eq (stored : Bool) (s : State) : exec (.restartStart stored) s = .next (if s.clp.restartDue then
    start .restart (saturate 65535 s.lmc.startRecord.restarts) stored s.srg.learned s.clp.sent s else s) := rfl

theorem exec_restartStart_armed {stored : Bool} (d : s.clp.restartDue = true) (h : exec (.restartStart stored) s = .next t) :
    t.wlc.armed = false := by
  rw [exec_restartStart_eq, if_pos d] at h
  cases h
  exact start_armed ..

theorem exec_replacement_armed {d : Description} (f : s.lst.inFlight = some (.lineDescription d))
    (h : exec (.lineDescriptionCompletion .done) s = .next t) : t.wlc.armed = false := by
  have e : exec (.lineDescriptionCompletion .done) s = execLineDescriptionCompletion .done s := rfl
  rw [e, execLineDescriptionCompletion, f] at h
  cases h
  exact (conclude_armed _).trans (replaceDescription_armed ..)

theorem exec_failedDescription_keeps : OutcomeKeeps s (exec (.lineDescriptionCompletion .failed) s) := by
  refine outcomeKeeps_next ?_
  split
  · exact (conclude_armed _).trans (failDescription_armed _)
  · rfl

/-- The completion arms nothing: a replacement leaves the set UNARMED, and all else keeps the arming (R15). -/
theorem exec_lineDescriptionCompletion_arms_nothing {o : StoreOutcome}
    (h : exec (.lineDescriptionCompletion o) s = .next t) (a : t.wlc.armed = true) : s.wlc.armed = true := by
  cases o with
  | failed => exact (exec_failedDescription_keeps t h).symm.trans a
  | done =>
    cases h
    split at a
    · rw [conclude_armed, replaceDescription_armed] at a
      cases a
    · exact a

/-- An accepted PATTERN_SET leaves the set UNARMED (R35). -/
theorem answerPatternSet_armed {tag : Nat} {f : PatternFields} {u : State} (h : answerPatternSet tag f s = .ok u) :
    u.wlc.armed = false := by
  obtain ⟨_, _, h⟩ := bind_eq_ok.mp h
  obtain ⟨_, _, h⟩ := bind_eq_ok.mp h
  obtain ⟨_, _, h⟩ := bind_eq_ok.mp h
  cases h
  exact notice_armed ..

/-- What a due PATTERN_SET comes to: the set UNARMED, or a refusal. -/
theorem exec_patternSet_cases {tag : Nat} {f : PatternFields} (d : due (.patternSet tag f) s)
    (h : exec (.patternSet tag f) s = .next t) :
    t.wlc.armed = false ∨ ∃ r l, refusedWith (.patternSet tag f) tag r l s := by
  rcases k : answerPatternSet tag f s with e | u
  · exact .inr ⟨e.reason, e.details, refusedWith_of rfl d k⟩
  · have x : exec (.patternSet tag f) s = .next u.popLine := takeRequest_ok d k
    rw [x] at h
    cases h
    exact .inl (show u.wlc.armed = false from answerPatternSet_armed k)

theorem exec_patternSet_arms_nothing {tag : Nat} {f : PatternFields} (h : exec (.patternSet tag f) s = .next t)
    (a : t.wlc.armed = true) : s.wlc.armed = true := by
  rcases takeRequest_cases h with rfl | ⟨_, _, _, rfl⟩ | ⟨_, u, k, rfl⟩
  · exact a
  · exact a
  · exact absurd ((answerPatternSet_armed k).symm.trans a) nofun

/-- PATTERN_ARM makes the set ARMED only as a request that is due. -/
theorem exec_patternArm_due {tag : Nat} (h : exec (.patternArm tag) s = .next t) : t = s ∨ due (.patternArm tag) s := by
  rcases takeRequest_cases h with e | ⟨d, _⟩ | ⟨d, _⟩
  · exact .inl e
  · exact .inr d
  · exact .inr d

/-! ### The answers of PATTERN_ARM -/

theorem windowTooLong_iff (p : Pattern) :
    windowTooLong p = true ↔ p.enabled = true ∧ ∃ n, p.length = .one n ∧ n < p.offset + 6 := by
  unfold windowTooLong
  cases p.length <;> simp

/-- The entry at fault is the first one whose window runs past its exact length. -/
theorem exec_patternArm_refused {tag k : Nat} {p : Pattern} (d : due (.patternArm tag) s) (at_ : s.wlc.patterns[k]? = some p)
    (bad : windowTooLong p = true) (first : ∀ j q, j < k → s.wlc.patterns[j]? = some q → ¬ windowTooLong q = true) :
    refusedWith (.patternArm tag) tag .badField [⟨"index", vNum k⟩, ⟨"field", vWord "offset"⟩] s := by
  have found : (s.wlc.patterns.zipIdx.find? fun q => windowTooLong q.1) = some (p, k) := by
    obtain ⟨lt, e⟩ := List.getElem?_eq_some_iff.mp at_
    refine List.find?_eq_some_iff_getElem.mpr ⟨bad, k, by simpa using lt, by simp [e], fun j l => ?_⟩
    simpa using first j _ l (List.getElem?_eq_getElem (Nat.lt_trans l lt))
  refine refusedWith_of rfl d ?_
  unfold answerPatternArm
  rw [found]
  rfl

theorem exec_patternArm_accepted {tag : Nat} (d : due (.patternArm tag) s)
    (good : ∀ p ∈ s.wlc.patterns, ¬ windowTooLong p = true) :
    accepted (.patternArm tag) tag s ({ readyPatterns s with wlc.armed := true }.patternNotice vAbsent "ARM") [] := by
  have found : (s.wlc.patterns.zipIdx.find? fun q => windowTooLong q.1) = none :=
    List.find?_eq_none.mpr fun q m => good q.1 (List.fst_mem_of_mem_zipIdx m)
  refine accepted_of rfl d ?_
  unfold answerPatternArm
  rw [found]

/-! ### The law -/

/-- Only PATTERN_ARM makes the set ARMED. -/
theorem exec_arms (c : Instr) (h : exec c s = .next t) (a : t.wlc.armed = true) :
    s.wlc.armed = true ∨ ∃ tag, c = .patternArm tag ∧ due c s := by
  cases k : decidesArming c with
  | false => exact .inl ((exec_keeps_arming c k t h).symm.trans a)
  | true =>
    cases c with
    | powerOn stored => exact absurd ((exec_powerOn_armed h).symm.trans a) nofun
    | restartStart stored =>
      by_cases d : s.clp.restartDue = true
      · exact absurd ((exec_restartStart_armed d h).symm.trans a) nofun
      · rw [exec_restartStart_eq, if_neg d] at h
        cases h
        exact .inl a
    | lineDescriptionCompletion o => exact .inl (exec_lineDescriptionCompletion_arms_nothing h a)
    | patternSet tag f => exact .inl (exec_patternSet_arms_nothing h a)
    | patternArm tag =>
      rcases exec_patternArm_due h with rfl | d
      · exact .inl a
      · exact .inr ⟨tag, rfl, d⟩
    | _ => cases k

/-- Settles O33. The answers of PATTERN_ARM turn on the first entry whose window is too long; the law is the case split over the five
commands that decide the arming, every other command keeping it. -/
theorem patternArming : Obligations.PatternArming := by
  refine ⟨fun tag s d => ⟨?_, ?_⟩, fun _ _ _ _ d h => exec_patternSet_cases d h, fun _ _ _ h => exec_powerOn_armed h,
    fun _ _ _ d h => exec_restartStart_armed d h, fun _ _ _ f h => exec_replacement_armed f h, fun c _ _ h a => exec_arms c h a⟩
  · intro k p at_ bad first
    exact exec_patternArm_refused d at_ ((windowTooLong_iff p).mpr bad) fun j q l m w => first j q l m ((windowTooLong_iff q).mp w)
  · intro good
    exact ⟨_, _, exec_patternArm_accepted d fun p m w => good p m ((windowTooLong_iff p).mp w)⟩

end Sys2Proof.Proofs.Arming
end

section
/-!
PROOFS. The draw class (R56): what TRAIN_SET_DRAW answers and what it makes of the train's record; the class that the evaluation of a
call hands to its grant request, and the grant that comes of it (R86, R110); and O39.
-/

namespace Sys2Proof.Proofs.DrawClass

open Sys2Proof.Machine Sys2Proof.Safety Sys2Proof.Laws

variable {s : State}

/-! ### What a notice and an insertion leave -/

@[simp] theorem notice_trk (k : NoticeKind) (l : List Field) (s : State) : (s.notice k l).trk = s.trk := by
  unfold State.notice
  split <;> rfl

@[simp] theorem notice_tpc (k : NoticeKind) (l : List Field) (s : State) : (s.notice k l).tpc = s.tpc := by
  unfold State.notice
  split <;> rfl

/-- Trains are looked up in the train table alone. -/
@[simp] theorem train?_notice (k : NoticeKind) (l : List Field) (s : State) (n : Nat) : (s.notice k l).train? n = s.train? n := by
  unfold State.train?
  rw [notice_trk]

/-- A record put into an ordered list is in it, as a further member or in place of the one with its key. -/
theorem mem_insertBy_self {α : Type} (key : α → Nat) (x : α) (l : List α) : x ∈ insertBy key x l := by
  induction l with
  | nil => exact List.mem_singleton_self x
  | cons y l ih =>
    unfold insertBy
    split
    · exact List.mem_cons_self
    · split
      · exact List.mem_cons_self
      · exact List.mem_cons_of_mem y ih

/-! ### The train's record -/

/-- A change that keeps the train numbers is found under the number. -/
theorem train?_modTrain (n : Nat) (f : Train → Train) (keeps : ∀ r, (f r).number = r.number) (s : State) :
    (s.modTrain n f).train? n = (s.train? n).map f :=
  find_modify Train.number n f keeps s.trk.trains

/-! ### The answers of TRAIN_SET_DRAW -/

section
variable {tag : Nat} {n c : Option Nat}

theorem exec_trainSetDraw_badNumber (d : due (.trainSetDraw tag n c) s) (bad : ¬ given 1 999 n) :
    badlyFilled (.trainSetDraw tag n c) tag "number" s := by
  refine badlyFilled_of rfl d ?_
  simp [answerSetDraw, needIn_not _ bad]

theorem exec_trainSetDraw_badClass (d : due (.trainSetDraw tag n c) s) (good : given 1 999 n) (bad : ¬ given 1 3 c) :
    badlyFilled (.trainSetDraw tag n c) tag "draw_class" s := by
  obtain ⟨k, rfl, low, high⟩ := good
  refine badlyFilled_of rfl d ?_
  simp [answerSetDraw, needIn_given _ low high, needIn_not _ bad]

end

section
variable {tag k c : Nat}

/-- With both numbers in their ranges the answer turns on the train's record alone. -/
theorem answerSetDraw_given (number : given 1 999 (some k)) (cls : given 1 3 (some c)) :
    answerSetDraw tag (some k) (some c) s = (needTrain k s).map fun _ =>
      ((s.modTrain k fun r => { r with draw := c }).trainNotice k).ok tag [fld "number" (vNum k), fld "draw_class" (vNum c)] := by
  obtain ⟨low, high⟩ := given_some.mp number
  obtain ⟨clow, chigh⟩ := given_some.mp cls
  unfold answerSetDraw
  rw [needIn_given _ low high, bind_ok, needIn_given _ clow chigh, bind_ok]
  cases needTrain k s <;> rfl

theorem exec_trainSetDraw_notFound (d : due (.trainSetDraw tag (some k) (some c)) s) (number : given 1 999 (some k))
    (cls : given 1 3 (some c)) (missing : s.train? k = none) :
    refusedWith (.trainSetDraw tag (some k) (some c)) tag .notFound [] s := by
  refine refusedWith_of rfl d ?_
  rw [answerSetDraw_given number cls, needTrain, missing]
  rfl

theorem exec_trainSetDraw_accepted {r : Train} (d : due (.trainSetDraw tag (some k) (some c)) s) (number : given 1 999 (some k))
    (cls : given 1 3 (some c)) (found : s.train? k = some r) :
    accepted (.trainSetDraw tag (some k) (some c)) tag s ((s.modTrain k fun r => { r with draw := c }).trainNotice k)
      [fld "number" (vNum k), fld "draw_class" (vNum c)] := by
  refine accepted_of rfl d ?_
  rw [answerSetDraw_given number cls, needTrain, found]
  rfl

end

/-- The class set is the one the record has after the notice. -/
theorem train?_setDraw {k : Nat} {r : Train} (c : Nat) (l : List Field) (found : s.train? k = some r) :
    ((s.modTrain k fun r => { r with draw := c }).notice .train l).train? k = some { r with draw := c } := by
  rw [train?_notice, train?_modTrain k (fun r => { r with draw := c }) (fun _ => rfl), found]
  rfl

/-! ### The grant request of an evaluation -/

/-- A call that passes its checks comes to a grant request with the draw class of the train's record: the authority is issued when the
grant is made, and the call waits when it is not (R86, R110). -/
theorem evaluateCall_of_checks {n x : Nat} {r : Train} {c : Call} (found : s.train? n = some r) (calls : r.call = some c)
    (passes : evaluationChecks s r c = some x) :
    evaluateCall n s =
      if (requestGrant n x r.draw s.regulation.window s).1 then issueAuthority n x c (requestGrant n x r.draw s.regulation.window s).2
      else (.noGrant x, (requestGrant n x r.draw s.regulation.window s).2.modCall n fun d => { d with phase := .waiting }) := by
  simp only [evaluateCall, found, calls, passes]
  rcases requestGrant n x r.draw s.regulation.window s with ⟨made, u⟩
  cases made <;> rfl

/-- A grant that is made stands in the table with the tokens asked for (R110). -/
theorem mem_grants_of_requestGrant {n x draw window : Nat} (made : (requestGrant n x draw window s).1 = true) :
    ({ train := n, sec := x, tokens := draw, expiry := s.now + window } : Grant) ∈ (requestGrant n x draw window s).2.tpc.grants := by
  unfold requestGrant at made ⊢
  dsimp only at made ⊢
  split
  · exact mem_insertBy_self ..
  · rename_i fails
    rw [if_neg fails] at made
    cases made

/-- Settles O39. The request's checks come in the order of its fields; the evaluation hands the record's class to the grant request, and
the grant made carries it as its tokens. -/
theorem drawClassSet : Obligations.DrawClassSet := by
  refine ⟨fun tag n c s d => ⟨exec_trainSetDraw_badNumber d, exec_trainSetDraw_badClass d, ?_⟩, ?_, ?_⟩
  · rintro k cls rfl rfl low high clow chigh
    have number : given 1 999 (some k) := given_some.mpr ⟨low, high⟩
    have inRange : given 1 3 (some cls) := given_some.mpr ⟨clow, chigh⟩
    refine ⟨exec_trainSetDraw_notFound d number inRange, fun r found => ?_⟩
    refine ⟨_, _, _, exec_trainSetDraw_accepted d number inRange found, rfl, train?_setDraw cls _ found, ?_⟩
    rw [State.trainNotice, notice_tpc, modTrain_tpc]
  · intro n x r c s found calls passes
    have evaluated := evaluateCall_of_checks found calls passes
    refine ⟨fun made => ?_, fun refused => ?_⟩
    · rw [evaluated, if_pos made]
    · rw [evaluated, refused]
      rfl
  · intro n x draw window s made
    exact ⟨_, mem_grants_of_requestGrant made, rfl, rfl, rfl⟩

end Sys2Proof.Proofs.DrawClass
end
